-- ==== Sys2Proof/Word.lean ====
section
/-! DEFINITION. The word types of the tvp CORE (00_scope.md R14, R18): bytes, 16-bit words and 2-bit shades.
Bit-field, sign-extension and byte-order helpers are in Machine/Bits.lean. -/

namespace Sys2Proof

/-- `u8` (R18): a register, a memory cell, an opcode byte. -/
abbrev Byte := BitVec 8

/-- `u16` (R18): an address, a register pair, SP or PC. -/
abbrev Word := BitVec 16

/-- A 2-bit shade or raw colour index (R28, R58, R59). -/
abbrev Shade := BitVec 2

end Sys2Proof
end

