-- ==== Sys2Proof/Machine/Bits.lean ====
section
/-! DEFINITION. Bit-field, sign-extension and byte-order helpers (00_scope.md R17, R18). -/

namespace Sys2Proof.Machine

/-- `hi(v)` is `v[15:8]` (R18). -/
def hi (v : Word) : Byte := v.extractLsb' 8 8

/-- `lo(v)` is `v[7:0]` (R18). -/
def lo (v : Word) : Byte := v.extractLsb' 0 8

/-- `hi:lo`, that is `hi*256 + lo` (R18). -/
def pack (high low : Byte) : Word := high ++ low

/-- `sext_16(v)`: `v` if v < 0x80, else `v + 0xFF00` (R18). -/
def sext16 (v : Byte) : Word := v.signExtend 16

/-- `zext_16(v)` (R18). -/
def zext16 (v : Byte) : Word := v.setWidth 16

/-- `v[n]`, with bit 0 the least significant (R17). -/
def bit (v : Byte) (n : Nat) : Bool := v.getLsbD n

/-- The byte whose only set bit is bit n: `1 << n`. -/
def bitMask (n : Nat) : Byte := 1#8 <<< n

end Sys2Proof.Machine
end

