-- ==== Sys2Proof/Syntax.lean ====
section
/-! DEFINITION. The instruction set: operand codes (30_encoding.md R113) and ONE inductive with one constructor per
row of spec/opcode_table.json. A constructor's name spells its mnemonic with `at` for parentheses; its arguments are
the operand bytes the table leaves free (R115). -/

namespace Sys2Proof

/-- The 8-bit registers an r8 code can name (R113; no code names F, R114). -/
inductive Reg8 where
  | b | c | d | e | h | l | a
  deriving DecidableEq, Repr

/-- An r8 code's operand (R113): a register, or for code 6 the byte at HL. -/
inductive Operand8 where
  | reg (r : Reg8)
  | atHL
  deriving DecidableEq, Repr

/-- The `rp` column of R113. -/
inductive Pair where
  | bc | de | hl | sp
  deriving DecidableEq, Repr

/-- The `rp2` column of R113, used by PUSH and POP. -/
inductive StackPair where
  | bc | de | hl | af
  deriving DecidableEq, Repr

/-- The condition names (00_scope.md R29). -/
inductive Cond where
  | nz | z | nc | c
  deriving DecidableEq, Repr

/-- The `alu` column of R113. -/
inductive AluOp where
  | add | adc | sub | sbc | and | xor | or | cp
  deriving DecidableEq, Repr

/-- The `rot` column of R113. -/
inductive RotOp where
  | rlc | rrc | rl | rr | sla | sra | swap | srl
  deriving DecidableEq, Repr

/-- The value of a 3-bit field: a bit number of BIT, RES and SET, or the `y` of RST (R115). -/
inductive Field3 where
  | n0 | n1 | n2 | n3 | n4 | n5 | n6 | n7
  deriving DecidableEq, Repr

/-- The number a 3-bit field holds. -/
def Field3.toNat : Field3 → Nat
  | .n0 => 0
  | .n1 => 1
  | .n2 => 2
  | .n3 => 3
  | .n4 => 4
  | .n5 => 5
  | .n6 => 6
  | .n7 => 7

/-- The 511 instructions of spec/opcode_table.json: 245 primary, 11 illegal slots, 256 CB-prefixed (R116, R120). The
comment at each row gives the spec's mnemonic, its opcode bytes and its rule. The rows with operand bytes stand first,
since Lean's compiler gives a constructor with fields a small tag; each part is in the table's order. -/
inductive Instr where
  /-- LD BC,d16 (0x01, R157). -/
  | ld_BC_d16 (d16 : Word)
  /-- LD B,d8 (0x06, R141). -/
  | ld_B_d8 (d8 : Byte)
  /-- LD (a16),SP (0x08, R164). -/
  | ld_atA16_SP (a16 : Word)
  /-- LD C,d8 (0x0E, R141). -/
  | ld_C_d8 (d8 : Byte)
  /-- STOP (0x10, R277). -/
  | stop (ignored : Byte)
  /-- LD DE,d16 (0x11, R157). -/
  | ld_DE_d16 (d16 : Word)
  /-- LD D,d8 (0x16, R141). -/
  | ld_D_d8 (d8 : Byte)
  /-- JR e8 (0x18, R253). -/
  | jr_e8 (e8 : Byte)
  /-- LD E,d8 (0x1E, R141). -/
  | ld_E_d8 (d8 : Byte)
  /-- JR NZ,e8 (0x20, R254). -/
  | jr_NZ_e8 (e8 : Byte)
  /-- LD HL,d16 (0x21, R157). -/
  | ld_HL_d16 (d16 : Word)
  /-- LD H,d8 (0x26, R141). -/
  | ld_H_d8 (d8 : Byte)
  /-- JR Z,e8 (0x28, R254). -/
  | jr_Z_e8 (e8 : Byte)
  /-- LD L,d8 (0x2E, R141). -/
  | ld_L_d8 (d8 : Byte)
  /-- JR NC,e8 (0x30, R254). -/
  | jr_NC_e8 (e8 : Byte)
  /-- LD SP,d16 (0x31, R157). -/
  | ld_SP_d16 (d16 : Word)
  /-- LD (HL),d8 (0x36, R144). -/
  | ld_atHL_d8 (d8 : Byte)
  /-- JR C,e8 (0x38, R254). -/
  | jr_C_e8 (e8 : Byte)
  /-- LD A,d8 (0x3E, R141). -/
  | ld_A_d8 (d8 : Byte)
  /-- JP NZ,a16 (0xC2, R251). -/
  | jp_NZ_a16 (a16 : Word)
  /-- JP a16 (0xC3, R250). -/
  | jp_a16 (a16 : Word)
  /-- CALL NZ,a16 (0xC4, R256). -/
  | call_NZ_a16 (a16 : Word)
  /-- ADD A,d8 (0xC6, R183). -/
  | add_A_d8 (d8 : Byte)
  /-- JP Z,a16 (0xCA, R251). -/
  | jp_Z_a16 (a16 : Word)
  /-- CALL Z,a16 (0xCC, R256). -/
  | call_Z_a16 (a16 : Word)
  /-- CALL a16 (0xCD, R255). -/
  | call_a16 (a16 : Word)
  /-- ADC A,d8 (0xCE, R184). -/
  | adc_A_d8 (d8 : Byte)
  /-- JP NC,a16 (0xD2, R251). -/
  | jp_NC_a16 (a16 : Word)
  /-- CALL NC,a16 (0xD4, R256). -/
  | call_NC_a16 (a16 : Word)
  /-- SUB d8 (0xD6, R185). -/
  | sub_d8 (d8 : Byte)
  /-- JP C,a16 (0xDA, R251). -/
  | jp_C_a16 (a16 : Word)
  /-- CALL C,a16 (0xDC, R256). -/
  | call_C_a16 (a16 : Word)
  /-- SBC A,d8 (0xDE, R186). -/
  | sbc_A_d8 (d8 : Byte)
  /-- LDH (a8),A (0xE0, R150). -/
  | ldh_atA8_A (a8 : Byte)
  /-- AND d8 (0xE6, R187). -/
  | and_d8 (d8 : Byte)
  /-- ADD SP,e8 (0xE8, R214). -/
  | add_SP_e8 (e8 : Byte)
  /-- LD (a16),A (0xEA, R148). -/
  | ld_atA16_A (a16 : Word)
  /-- XOR d8 (0xEE, R188). -/
  | xor_d8 (d8 : Byte)
  /-- LDH A,(a8) (0xF0, R149). -/
  | ldh_A_atA8 (a8 : Byte)
  /-- OR d8 (0xF6, R189). -/
  | or_d8 (d8 : Byte)
  /-- LD HL,SP+e8 (0xF8, R158). -/
  | ld_HL_SPe8 (e8 : Byte)
  /-- LD A,(a16) (0xFA, R147). -/
  | ld_A_atA16 (a16 : Word)
  /-- CP d8 (0xFE, R190). -/
  | cp_d8 (d8 : Byte)
  /-- NOP (0x00, R275). -/
  | nop
  /-- LD (BC),A (0x02, R146). -/
  | ld_atBC_A
  /-- INC BC (0x03, R212). -/
  | inc_BC
  /-- INC B (0x04, R191). -/
  | inc_B
  /-- DEC B (0x05, R193). -/
  | dec_B
  /-- RLCA (0x07, R225). -/
  | rlca
  /-- ADD HL,BC (0x09, R211). -/
  | add_HL_BC
  /-- LD A,(BC) (0x0A, R145). -/
  | ld_A_atBC
  /-- DEC BC (0x0B, R213). -/
  | dec_BC
  /-- INC C (0x0C, R191). -/
  | inc_C
  /-- DEC C (0x0D, R193). -/
  | dec_C
  /-- RRCA (0x0F, R226). -/
  | rrca
  /-- LD (DE),A (0x12, R146). -/
  | ld_atDE_A
  /-- INC DE (0x13, R212). -/
  | inc_DE
  /-- INC D (0x14, R191). -/
  | inc_D
  /-- DEC D (0x15, R193). -/
  | dec_D
  /-- RLA (0x17, R227). -/
  | rla
  /-- ADD HL,DE (0x19, R211). -/
  | add_HL_DE
  /-- LD A,(DE) (0x1A, R145). -/
  | ld_A_atDE
  /-- DEC DE (0x1B, R213). -/
  | dec_DE
  /-- INC E (0x1C, R191). -/
  | inc_E
  /-- DEC E (0x1D, R193). -/
  | dec_E
  /-- RRA (0x1F, R228). -/
  | rra
  /-- LD (HL+),A (0x22, R153). -/
  | ld_atHLinc_A
  /-- INC HL (0x23, R212). -/
  | inc_HL
  /-- INC H (0x24, R191). -/
  | inc_H
  /-- DEC H (0x25, R193). -/
  | dec_H
  /-- DAA (0x27, R195). -/
  | daa
  /-- ADD HL,HL (0x29, R211). -/
  | add_HL_HL
  /-- LD A,(HL+) (0x2A, R155). -/
  | ld_A_atHLinc
  /-- DEC HL (0x2B, R213). -/
  | dec_HL
  /-- INC L (0x2C, R191). -/
  | inc_L
  /-- DEC L (0x2D, R193). -/
  | dec_L
  /-- CPL (0x2F, R196). -/
  | cpl
  /-- LD (HL-),A (0x32, R154). -/
  | ld_atHLdec_A
  /-- INC SP (0x33, R212). -/
  | inc_SP
  /-- INC (HL) (0x34, R192). -/
  | inc_atHL
  /-- DEC (HL) (0x35, R194). -/
  | dec_atHL
  /-- SCF (0x37, R197). -/
  | scf
  /-- ADD HL,SP (0x39, R211). -/
  | add_HL_SP
  /-- LD A,(HL-) (0x3A, R156). -/
  | ld_A_atHLdec
  /-- DEC SP (0x3B, R213). -/
  | dec_SP
  /-- INC A (0x3C, R191). -/
  | inc_A
  /-- DEC A (0x3D, R193). -/
  | dec_A
  /-- CCF (0x3F, R198). -/
  | ccf
  /-- LD B,B (0x40, R140). -/
  | ld_B_B
  /-- LD B,C (0x41, R140). -/
  | ld_B_C
  /-- LD B,D (0x42, R140). -/
  | ld_B_D
  /-- LD B,E (0x43, R140). -/
  | ld_B_E
  /-- LD B,H (0x44, R140). -/
  | ld_B_H
  /-- LD B,L (0x45, R140). -/
  | ld_B_L
  /-- LD B,(HL) (0x46, R142). -/
  | ld_B_atHL
  /-- LD B,A (0x47, R140). -/
  | ld_B_A
  /-- LD C,B (0x48, R140). -/
  | ld_C_B
  /-- LD C,C (0x49, R140). -/
  | ld_C_C
  /-- LD C,D (0x4A, R140). -/
  | ld_C_D
  /-- LD C,E (0x4B, R140). -/
  | ld_C_E
  /-- LD C,H (0x4C, R140). -/
  | ld_C_H
  /-- LD C,L (0x4D, R140). -/
  | ld_C_L
  /-- LD C,(HL) (0x4E, R142). -/
  | ld_C_atHL
  /-- LD C,A (0x4F, R140). -/
  | ld_C_A
  /-- LD D,B (0x50, R140). -/
  | ld_D_B
  /-- LD D,C (0x51, R140). -/
  | ld_D_C
  /-- LD D,D (0x52, R140). -/
  | ld_D_D
  /-- LD D,E (0x53, R140). -/
  | ld_D_E
  /-- LD D,H (0x54, R140). -/
  | ld_D_H
  /-- LD D,L (0x55, R140). -/
  | ld_D_L
  /-- LD D,(HL) (0x56, R142). -/
  | ld_D_atHL
  /-- LD D,A (0x57, R140). -/
  | ld_D_A
  /-- LD E,B (0x58, R140). -/
  | ld_E_B
  /-- LD E,C (0x59, R140). -/
  | ld_E_C
  /-- LD E,D (0x5A, R140). -/
  | ld_E_D
  /-- LD E,E (0x5B, R140). -/
  | ld_E_E
  /-- LD E,H (0x5C, R140). -/
  | ld_E_H
  /-- LD E,L (0x5D, R140). -/
  | ld_E_L
  /-- LD E,(HL) (0x5E, R142). -/
  | ld_E_atHL
  /-- LD E,A (0x5F, R140). -/
  | ld_E_A
  /-- LD H,B (0x60, R140). -/
  | ld_H_B
  /-- LD H,C (0x61, R140). -/
  | ld_H_C
  /-- LD H,D (0x62, R140). -/
  | ld_H_D
  /-- LD H,E (0x63, R140). -/
  | ld_H_E
  /-- LD H,H (0x64, R140). -/
  | ld_H_H
  /-- LD H,L (0x65, R140). -/
  | ld_H_L
  /-- LD H,(HL) (0x66, R142). -/
  | ld_H_atHL
  /-- LD H,A (0x67, R140). -/
  | ld_H_A
  /-- LD L,B (0x68, R140). -/
  | ld_L_B
  /-- LD L,C (0x69, R140). -/
  | ld_L_C
  /-- LD L,D (0x6A, R140). -/
  | ld_L_D
  /-- LD L,E (0x6B, R140). -/
  | ld_L_E
  /-- LD L,H (0x6C, R140). -/
  | ld_L_H
  /-- LD L,L (0x6D, R140). -/
  | ld_L_L
  /-- LD L,(HL) (0x6E, R142). -/
  | ld_L_atHL
  /-- LD L,A (0x6F, R140). -/
  | ld_L_A
  /-- LD (HL),B (0x70, R143). -/
  | ld_atHL_B
  /-- LD (HL),C (0x71, R143). -/
  | ld_atHL_C
  /-- LD (HL),D (0x72, R143). -/
  | ld_atHL_D
  /-- LD (HL),E (0x73, R143). -/
  | ld_atHL_E
  /-- LD (HL),H (0x74, R143). -/
  | ld_atHL_H
  /-- LD (HL),L (0x75, R143). -/
  | ld_atHL_L
  /-- HALT (0x76, R276). -/
  | halt
  /-- LD (HL),A (0x77, R143). -/
  | ld_atHL_A
  /-- LD A,B (0x78, R140). -/
  | ld_A_B
  /-- LD A,C (0x79, R140). -/
  | ld_A_C
  /-- LD A,D (0x7A, R140). -/
  | ld_A_D
  /-- LD A,E (0x7B, R140). -/
  | ld_A_E
  /-- LD A,H (0x7C, R140). -/
  | ld_A_H
  /-- LD A,L (0x7D, R140). -/
  | ld_A_L
  /-- LD A,(HL) (0x7E, R142). -/
  | ld_A_atHL
  /-- LD A,A (0x7F, R140). -/
  | ld_A_A
  /-- ADD A,B (0x80, R183). -/
  | add_A_B
  /-- ADD A,C (0x81, R183). -/
  | add_A_C
  /-- ADD A,D (0x82, R183). -/
  | add_A_D
  /-- ADD A,E (0x83, R183). -/
  | add_A_E
  /-- ADD A,H (0x84, R183). -/
  | add_A_H
  /-- ADD A,L (0x85, R183). -/
  | add_A_L
  /-- ADD A,(HL) (0x86, R183). -/
  | add_A_atHL
  /-- ADD A,A (0x87, R183). -/
  | add_A_A
  /-- ADC A,B (0x88, R184). -/
  | adc_A_B
  /-- ADC A,C (0x89, R184). -/
  | adc_A_C
  /-- ADC A,D (0x8A, R184). -/
  | adc_A_D
  /-- ADC A,E (0x8B, R184). -/
  | adc_A_E
  /-- ADC A,H (0x8C, R184). -/
  | adc_A_H
  /-- ADC A,L (0x8D, R184). -/
  | adc_A_L
  /-- ADC A,(HL) (0x8E, R184). -/
  | adc_A_atHL
  /-- ADC A,A (0x8F, R184). -/
  | adc_A_A
  /-- SUB B (0x90, R185). -/
  | sub_B
  /-- SUB C (0x91, R185). -/
  | sub_C
  /-- SUB D (0x92, R185). -/
  | sub_D
  /-- SUB E (0x93, R185). -/
  | sub_E
  /-- SUB H (0x94, R185). -/
  | sub_H
  /-- SUB L (0x95, R185). -/
  | sub_L
  /-- SUB (HL) (0x96, R185). -/
  | sub_atHL
  /-- SUB A (0x97, R185). -/
  | sub_A
  /-- SBC A,B (0x98, R186). -/
  | sbc_A_B
  /-- SBC A,C (0x99, R186). -/
  | sbc_A_C
  /-- SBC A,D (0x9A, R186). -/
  | sbc_A_D
  /-- SBC A,E (0x9B, R186). -/
  | sbc_A_E
  /-- SBC A,H (0x9C, R186). -/
  | sbc_A_H
  /-- SBC A,L (0x9D, R186). -/
  | sbc_A_L
  /-- SBC A,(HL) (0x9E, R186). -/
  | sbc_A_atHL
  /-- SBC A,A (0x9F, R186). -/
  | sbc_A_A
  /-- AND B (0xA0, R187). -/
  | and_B
  /-- AND C (0xA1, R187). -/
  | and_C
  /-- AND D (0xA2, R187). -/
  | and_D
  /-- AND E (0xA3, R187). -/
  | and_E
  /-- AND H (0xA4, R187). -/
  | and_H
  /-- AND L (0xA5, R187). -/
  | and_L
  /-- AND (HL) (0xA6, R187). -/
  | and_atHL
  /-- AND A (0xA7, R187). -/
  | and_A
  /-- XOR B (0xA8, R188). -/
  | xor_B
  /-- XOR C (0xA9, R188). -/
  | xor_C
  /-- XOR D (0xAA, R188). -/
  | xor_D
  /-- XOR E (0xAB, R188). -/
  | xor_E
  /-- XOR H (0xAC, R188). -/
  | xor_H
  /-- XOR L (0xAD, R188). -/
  | xor_L
  /-- XOR (HL) (0xAE, R188). -/
  | xor_atHL
  /-- XOR A (0xAF, R188). -/
  | xor_A
  /-- OR B (0xB0, R189). -/
  | or_B
  /-- OR C (0xB1, R189). -/
  | or_C
  /-- OR D (0xB2, R189). -/
  | or_D
  /-- OR E (0xB3, R189). -/
  | or_E
  /-- OR H (0xB4, R189). -/
  | or_H
  /-- OR L (0xB5, R189). -/
  | or_L
  /-- OR (HL) (0xB6, R189). -/
  | or_atHL
  /-- OR A (0xB7, R189). -/
  | or_A
  /-- CP B (0xB8, R190). -/
  | cp_B
  /-- CP C (0xB9, R190). -/
  | cp_C
  /-- CP D (0xBA, R190). -/
  | cp_D
  /-- CP E (0xBB, R190). -/
  | cp_E
  /-- CP H (0xBC, R190). -/
  | cp_H
  /-- CP L (0xBD, R190). -/
  | cp_L
  /-- CP (HL) (0xBE, R190). -/
  | cp_atHL
  /-- CP A (0xBF, R190). -/
  | cp_A
  /-- RET NZ (0xC0, R258). -/
  | ret_NZ
  /-- POP BC (0xC1, R163). -/
  | pop_BC
  /-- PUSH BC (0xC5, R162). -/
  | push_BC
  /-- RST 00H (0xC7, R260). -/
  | rst_00H
  /-- RET Z (0xC8, R258). -/
  | ret_Z
  /-- RET (0xC9, R257). -/
  | ret
  /-- RST 08H (0xCF, R260). -/
  | rst_08H
  /-- RET NC (0xD0, R258). -/
  | ret_NC
  /-- POP DE (0xD1, R163). -/
  | pop_DE
  /-- ILLEGAL_D3 (0xD3, R280). -/
  | illegal_D3
  /-- PUSH DE (0xD5, R162). -/
  | push_DE
  /-- RST 10H (0xD7, R260). -/
  | rst_10H
  /-- RET C (0xD8, R258). -/
  | ret_C
  /-- RETI (0xD9, R259). -/
  | reti
  /-- ILLEGAL_DB (0xDB, R280). -/
  | illegal_DB
  /-- ILLEGAL_DD (0xDD, R280). -/
  | illegal_DD
  /-- RST 18H (0xDF, R260). -/
  | rst_18H
  /-- POP HL (0xE1, R163). -/
  | pop_HL
  /-- LD (C),A (0xE2, R152). -/
  | ld_atC_A
  /-- ILLEGAL_E3 (0xE3, R280). -/
  | illegal_E3
  /-- ILLEGAL_E4 (0xE4, R280). -/
  | illegal_E4
  /-- PUSH HL (0xE5, R162). -/
  | push_HL
  /-- RST 20H (0xE7, R260). -/
  | rst_20H
  /-- JP HL (0xE9, R252). -/
  | jp_HL
  /-- ILLEGAL_EB (0xEB, R280). -/
  | illegal_EB
  /-- ILLEGAL_EC (0xEC, R280). -/
  | illegal_EC
  /-- ILLEGAL_ED (0xED, R280). -/
  | illegal_ED
  /-- RST 28H (0xEF, R260). -/
  | rst_28H
  /-- POP AF (0xF1, R163). -/
  | pop_AF
  /-- LD A,(C) (0xF2, R151). -/
  | ld_A_atC
  /-- DI (0xF3, R278). -/
  | di
  /-- ILLEGAL_F4 (0xF4, R280). -/
  | illegal_F4
  /-- PUSH AF (0xF5, R162). -/
  | push_AF
  /-- RST 30H (0xF7, R260). -/
  | rst_30H
  /-- LD SP,HL (0xF9, R159). -/
  | ld_SP_HL
  /-- EI (0xFB, R279). -/
  | ei
  /-- ILLEGAL_FC (0xFC, R280). -/
  | illegal_FC
  /-- ILLEGAL_FD (0xFD, R280). -/
  | illegal_FD
  /-- RST 38H (0xFF, R260). -/
  | rst_38H
  /-- RLC B (0xCB 0x00, R230). -/
  | rlc_B
  /-- RLC C (0xCB 0x01, R230). -/
  | rlc_C
  /-- RLC D (0xCB 0x02, R230). -/
  | rlc_D
  /-- RLC E (0xCB 0x03, R230). -/
  | rlc_E
  /-- RLC H (0xCB 0x04, R230). -/
  | rlc_H
  /-- RLC L (0xCB 0x05, R230). -/
  | rlc_L
  /-- RLC (HL) (0xCB 0x06, R230). -/
  | rlc_atHL
  /-- RLC A (0xCB 0x07, R230). -/
  | rlc_A
  /-- RRC B (0xCB 0x08, R231). -/
  | rrc_B
  /-- RRC C (0xCB 0x09, R231). -/
  | rrc_C
  /-- RRC D (0xCB 0x0A, R231). -/
  | rrc_D
  /-- RRC E (0xCB 0x0B, R231). -/
  | rrc_E
  /-- RRC H (0xCB 0x0C, R231). -/
  | rrc_H
  /-- RRC L (0xCB 0x0D, R231). -/
  | rrc_L
  /-- RRC (HL) (0xCB 0x0E, R231). -/
  | rrc_atHL
  /-- RRC A (0xCB 0x0F, R231). -/
  | rrc_A
  /-- RL B (0xCB 0x10, R232). -/
  | rl_B
  /-- RL C (0xCB 0x11, R232). -/
  | rl_C
  /-- RL D (0xCB 0x12, R232). -/
  | rl_D
  /-- RL E (0xCB 0x13, R232). -/
  | rl_E
  /-- RL H (0xCB 0x14, R232). -/
  | rl_H
  /-- RL L (0xCB 0x15, R232). -/
  | rl_L
  /-- RL (HL) (0xCB 0x16, R232). -/
  | rl_atHL
  /-- RL A (0xCB 0x17, R232). -/
  | rl_A
  /-- RR B (0xCB 0x18, R233). -/
  | rr_B
  /-- RR C (0xCB 0x19, R233). -/
  | rr_C
  /-- RR D (0xCB 0x1A, R233). -/
  | rr_D
  /-- RR E (0xCB 0x1B, R233). -/
  | rr_E
  /-- RR H (0xCB 0x1C, R233). -/
  | rr_H
  /-- RR L (0xCB 0x1D, R233). -/
  | rr_L
  /-- RR (HL) (0xCB 0x1E, R233). -/
  | rr_atHL
  /-- RR A (0xCB 0x1F, R233). -/
  | rr_A
  /-- SLA B (0xCB 0x20, R234). -/
  | sla_B
  /-- SLA C (0xCB 0x21, R234). -/
  | sla_C
  /-- SLA D (0xCB 0x22, R234). -/
  | sla_D
  /-- SLA E (0xCB 0x23, R234). -/
  | sla_E
  /-- SLA H (0xCB 0x24, R234). -/
  | sla_H
  /-- SLA L (0xCB 0x25, R234). -/
  | sla_L
  /-- SLA (HL) (0xCB 0x26, R234). -/
  | sla_atHL
  /-- SLA A (0xCB 0x27, R234). -/
  | sla_A
  /-- SRA B (0xCB 0x28, R235). -/
  | sra_B
  /-- SRA C (0xCB 0x29, R235). -/
  | sra_C
  /-- SRA D (0xCB 0x2A, R235). -/
  | sra_D
  /-- SRA E (0xCB 0x2B, R235). -/
  | sra_E
  /-- SRA H (0xCB 0x2C, R235). -/
  | sra_H
  /-- SRA L (0xCB 0x2D, R235). -/
  | sra_L
  /-- SRA (HL) (0xCB 0x2E, R235). -/
  | sra_atHL
  /-- SRA A (0xCB 0x2F, R235). -/
  | sra_A
  /-- SWAP B (0xCB 0x30, R236). -/
  | swap_B
  /-- SWAP C (0xCB 0x31, R236). -/
  | swap_C
  /-- SWAP D (0xCB 0x32, R236). -/
  | swap_D
  /-- SWAP E (0xCB 0x33, R236). -/
  | swap_E
  /-- SWAP H (0xCB 0x34, R236). -/
  | swap_H
  /-- SWAP L (0xCB 0x35, R236). -/
  | swap_L
  /-- SWAP (HL) (0xCB 0x36, R236). -/
  | swap_atHL
  /-- SWAP A (0xCB 0x37, R236). -/
  | swap_A
  /-- SRL B (0xCB 0x38, R237). -/
  | srl_B
  /-- SRL C (0xCB 0x39, R237). -/
  | srl_C
  /-- SRL D (0xCB 0x3A, R237). -/
  | srl_D
  /-- SRL E (0xCB 0x3B, R237). -/
  | srl_E
  /-- SRL H (0xCB 0x3C, R237). -/
  | srl_H
  /-- SRL L (0xCB 0x3D, R237). -/
  | srl_L
  /-- SRL (HL) (0xCB 0x3E, R237). -/
  | srl_atHL
  /-- SRL A (0xCB 0x3F, R237). -/
  | srl_A
  /-- BIT 0,B (0xCB 0x40, R238). -/
  | bit_0_B
  /-- BIT 0,C (0xCB 0x41, R238). -/
  | bit_0_C
  /-- BIT 0,D (0xCB 0x42, R238). -/
  | bit_0_D
  /-- BIT 0,E (0xCB 0x43, R238). -/
  | bit_0_E
  /-- BIT 0,H (0xCB 0x44, R238). -/
  | bit_0_H
  /-- BIT 0,L (0xCB 0x45, R238). -/
  | bit_0_L
  /-- BIT 0,(HL) (0xCB 0x46, R238). -/
  | bit_0_atHL
  /-- BIT 0,A (0xCB 0x47, R238). -/
  | bit_0_A
  /-- BIT 1,B (0xCB 0x48, R238). -/
  | bit_1_B
  /-- BIT 1,C (0xCB 0x49, R238). -/
  | bit_1_C
  /-- BIT 1,D (0xCB 0x4A, R238). -/
  | bit_1_D
  /-- BIT 1,E (0xCB 0x4B, R238). -/
  | bit_1_E
  /-- BIT 1,H (0xCB 0x4C, R238). -/
  | bit_1_H
  /-- BIT 1,L (0xCB 0x4D, R238). -/
  | bit_1_L
  /-- BIT 1,(HL) (0xCB 0x4E, R238). -/
  | bit_1_atHL
  /-- BIT 1,A (0xCB 0x4F, R238). -/
  | bit_1_A
  /-- BIT 2,B (0xCB 0x50, R238). -/
  | bit_2_B
  /-- BIT 2,C (0xCB 0x51, R238). -/
  | bit_2_C
  /-- BIT 2,D (0xCB 0x52, R238). -/
  | bit_2_D
  /-- BIT 2,E (0xCB 0x53, R238). -/
  | bit_2_E
  /-- BIT 2,H (0xCB 0x54, R238). -/
  | bit_2_H
  /-- BIT 2,L (0xCB 0x55, R238). -/
  | bit_2_L
  /-- BIT 2,(HL) (0xCB 0x56, R238). -/
  | bit_2_atHL
  /-- BIT 2,A (0xCB 0x57, R238). -/
  | bit_2_A
  /-- BIT 3,B (0xCB 0x58, R238). -/
  | bit_3_B
  /-- BIT 3,C (0xCB 0x59, R238). -/
  | bit_3_C
  /-- BIT 3,D (0xCB 0x5A, R238). -/
  | bit_3_D
  /-- BIT 3,E (0xCB 0x5B, R238). -/
  | bit_3_E
  /-- BIT 3,H (0xCB 0x5C, R238). -/
  | bit_3_H
  /-- BIT 3,L (0xCB 0x5D, R238). -/
  | bit_3_L
  /-- BIT 3,(HL) (0xCB 0x5E, R238). -/
  | bit_3_atHL
  /-- BIT 3,A (0xCB 0x5F, R238). -/
  | bit_3_A
  /-- BIT 4,B (0xCB 0x60, R238). -/
  | bit_4_B
  /-- BIT 4,C (0xCB 0x61, R238). -/
  | bit_4_C
  /-- BIT 4,D (0xCB 0x62, R238). -/
  | bit_4_D
  /-- BIT 4,E (0xCB 0x63, R238). -/
  | bit_4_E
  /-- BIT 4,H (0xCB 0x64, R238). -/
  | bit_4_H
  /-- BIT 4,L (0xCB 0x65, R238). -/
  | bit_4_L
  /-- BIT 4,(HL) (0xCB 0x66, R238). -/
  | bit_4_atHL
  /-- BIT 4,A (0xCB 0x67, R238). -/
  | bit_4_A
  /-- BIT 5,B (0xCB 0x68, R238). -/
  | bit_5_B
  /-- BIT 5,C (0xCB 0x69, R238). -/
  | bit_5_C
  /-- BIT 5,D (0xCB 0x6A, R238). -/
  | bit_5_D
  /-- BIT 5,E (0xCB 0x6B, R238). -/
  | bit_5_E
  /-- BIT 5,H (0xCB 0x6C, R238). -/
  | bit_5_H
  /-- BIT 5,L (0xCB 0x6D, R238). -/
  | bit_5_L
  /-- BIT 5,(HL) (0xCB 0x6E, R238). -/
  | bit_5_atHL
  /-- BIT 5,A (0xCB 0x6F, R238). -/
  | bit_5_A
  /-- BIT 6,B (0xCB 0x70, R238). -/
  | bit_6_B
  /-- BIT 6,C (0xCB 0x71, R238). -/
  | bit_6_C
  /-- BIT 6,D (0xCB 0x72, R238). -/
  | bit_6_D
  /-- BIT 6,E (0xCB 0x73, R238). -/
  | bit_6_E
  /-- BIT 6,H (0xCB 0x74, R238). -/
  | bit_6_H
  /-- BIT 6,L (0xCB 0x75, R238). -/
  | bit_6_L
  /-- BIT 6,(HL) (0xCB 0x76, R238). -/
  | bit_6_atHL
  /-- BIT 6,A (0xCB 0x77, R238). -/
  | bit_6_A
  /-- BIT 7,B (0xCB 0x78, R238). -/
  | bit_7_B
  /-- BIT 7,C (0xCB 0x79, R238). -/
  | bit_7_C
  /-- BIT 7,D (0xCB 0x7A, R238). -/
  | bit_7_D
  /-- BIT 7,E (0xCB 0x7B, R238). -/
  | bit_7_E
  /-- BIT 7,H (0xCB 0x7C, R238). -/
  | bit_7_H
  /-- BIT 7,L (0xCB 0x7D, R238). -/
  | bit_7_L
  /-- BIT 7,(HL) (0xCB 0x7E, R238). -/
  | bit_7_atHL
  /-- BIT 7,A (0xCB 0x7F, R238). -/
  | bit_7_A
  /-- RES 0,B (0xCB 0x80, R239). -/
  | res_0_B
  /-- RES 0,C (0xCB 0x81, R239). -/
  | res_0_C
  /-- RES 0,D (0xCB 0x82, R239). -/
  | res_0_D
  /-- RES 0,E (0xCB 0x83, R239). -/
  | res_0_E
  /-- RES 0,H (0xCB 0x84, R239). -/
  | res_0_H
  /-- RES 0,L (0xCB 0x85, R239). -/
  | res_0_L
  /-- RES 0,(HL) (0xCB 0x86, R239). -/
  | res_0_atHL
  /-- RES 0,A (0xCB 0x87, R239). -/
  | res_0_A
  /-- RES 1,B (0xCB 0x88, R239). -/
  | res_1_B
  /-- RES 1,C (0xCB 0x89, R239). -/
  | res_1_C
  /-- RES 1,D (0xCB 0x8A, R239). -/
  | res_1_D
  /-- RES 1,E (0xCB 0x8B, R239). -/
  | res_1_E
  /-- RES 1,H (0xCB 0x8C, R239). -/
  | res_1_H
  /-- RES 1,L (0xCB 0x8D, R239). -/
  | res_1_L
  /-- RES 1,(HL) (0xCB 0x8E, R239). -/
  | res_1_atHL
  /-- RES 1,A (0xCB 0x8F, R239). -/
  | res_1_A
  /-- RES 2,B (0xCB 0x90, R239). -/
  | res_2_B
  /-- RES 2,C (0xCB 0x91, R239). -/
  | res_2_C
  /-- RES 2,D (0xCB 0x92, R239). -/
  | res_2_D
  /-- RES 2,E (0xCB 0x93, R239). -/
  | res_2_E
  /-- RES 2,H (0xCB 0x94, R239). -/
  | res_2_H
  /-- RES 2,L (0xCB 0x95, R239). -/
  | res_2_L
  /-- RES 2,(HL) (0xCB 0x96, R239). -/
  | res_2_atHL
  /-- RES 2,A (0xCB 0x97, R239). -/
  | res_2_A
  /-- RES 3,B (0xCB 0x98, R239). -/
  | res_3_B
  /-- RES 3,C (0xCB 0x99, R239). -/
  | res_3_C
  /-- RES 3,D (0xCB 0x9A, R239). -/
  | res_3_D
  /-- RES 3,E (0xCB 0x9B, R239). -/
  | res_3_E
  /-- RES 3,H (0xCB 0x9C, R239). -/
  | res_3_H
  /-- RES 3,L (0xCB 0x9D, R239). -/
  | res_3_L
  /-- RES 3,(HL) (0xCB 0x9E, R239). -/
  | res_3_atHL
  /-- RES 3,A (0xCB 0x9F, R239). -/
  | res_3_A
  /-- RES 4,B (0xCB 0xA0, R239). -/
  | res_4_B
  /-- RES 4,C (0xCB 0xA1, R239). -/
  | res_4_C
  /-- RES 4,D (0xCB 0xA2, R239). -/
  | res_4_D
  /-- RES 4,E (0xCB 0xA3, R239). -/
  | res_4_E
  /-- RES 4,H (0xCB 0xA4, R239). -/
  | res_4_H
  /-- RES 4,L (0xCB 0xA5, R239). -/
  | res_4_L
  /-- RES 4,(HL) (0xCB 0xA6, R239). -/
  | res_4_atHL
  /-- RES 4,A (0xCB 0xA7, R239). -/
  | res_4_A
  /-- RES 5,B (0xCB 0xA8, R239). -/
  | res_5_B
  /-- RES 5,C (0xCB 0xA9, R239). -/
  | res_5_C
  /-- RES 5,D (0xCB 0xAA, R239). -/
  | res_5_D
  /-- RES 5,E (0xCB 0xAB, R239). -/
  | res_5_E
  /-- RES 5,H (0xCB 0xAC, R239). -/
  | res_5_H
  /-- RES 5,L (0xCB 0xAD, R239). -/
  | res_5_L
  /-- RES 5,(HL) (0xCB 0xAE, R239). -/
  | res_5_atHL
  /-- RES 5,A (0xCB 0xAF, R239). -/
  | res_5_A
  /-- RES 6,B (0xCB 0xB0, R239). -/
  | res_6_B
  /-- RES 6,C (0xCB 0xB1, R239). -/
  | res_6_C
  /-- RES 6,D (0xCB 0xB2, R239). -/
  | res_6_D
  /-- RES 6,E (0xCB 0xB3, R239). -/
  | res_6_E
  /-- RES 6,H (0xCB 0xB4, R239). -/
  | res_6_H
  /-- RES 6,L (0xCB 0xB5, R239). -/
  | res_6_L
  /-- RES 6,(HL) (0xCB 0xB6, R239). -/
  | res_6_atHL
  /-- RES 6,A (0xCB 0xB7, R239). -/
  | res_6_A
  /-- RES 7,B (0xCB 0xB8, R239). -/
  | res_7_B
  /-- RES 7,C (0xCB 0xB9, R239). -/
  | res_7_C
  /-- RES 7,D (0xCB 0xBA, R239). -/
  | res_7_D
  /-- RES 7,E (0xCB 0xBB, R239). -/
  | res_7_E
  /-- RES 7,H (0xCB 0xBC, R239). -/
  | res_7_H
  /-- RES 7,L (0xCB 0xBD, R239). -/
  | res_7_L
  /-- RES 7,(HL) (0xCB 0xBE, R239). -/
  | res_7_atHL
  /-- RES 7,A (0xCB 0xBF, R239). -/
  | res_7_A
  /-- SET 0,B (0xCB 0xC0, R240). -/
  | set_0_B
  /-- SET 0,C (0xCB 0xC1, R240). -/
  | set_0_C
  /-- SET 0,D (0xCB 0xC2, R240). -/
  | set_0_D
  /-- SET 0,E (0xCB 0xC3, R240). -/
  | set_0_E
  /-- SET 0,H (0xCB 0xC4, R240). -/
  | set_0_H
  /-- SET 0,L (0xCB 0xC5, R240). -/
  | set_0_L
  /-- SET 0,(HL) (0xCB 0xC6, R240). -/
  | set_0_atHL
  /-- SET 0,A (0xCB 0xC7, R240). -/
  | set_0_A
  /-- SET 1,B (0xCB 0xC8, R240). -/
  | set_1_B
  /-- SET 1,C (0xCB 0xC9, R240). -/
  | set_1_C
  /-- SET 1,D (0xCB 0xCA, R240). -/
  | set_1_D
  /-- SET 1,E (0xCB 0xCB, R240). -/
  | set_1_E
  /-- SET 1,H (0xCB 0xCC, R240). -/
  | set_1_H
  /-- SET 1,L (0xCB 0xCD, R240). -/
  | set_1_L
  /-- SET 1,(HL) (0xCB 0xCE, R240). -/
  | set_1_atHL
  /-- SET 1,A (0xCB 0xCF, R240). -/
  | set_1_A
  /-- SET 2,B (0xCB 0xD0, R240). -/
  | set_2_B
  /-- SET 2,C (0xCB 0xD1, R240). -/
  | set_2_C
  /-- SET 2,D (0xCB 0xD2, R240). -/
  | set_2_D
  /-- SET 2,E (0xCB 0xD3, R240). -/
  | set_2_E
  /-- SET 2,H (0xCB 0xD4, R240). -/
  | set_2_H
  /-- SET 2,L (0xCB 0xD5, R240). -/
  | set_2_L
  /-- SET 2,(HL) (0xCB 0xD6, R240). -/
  | set_2_atHL
  /-- SET 2,A (0xCB 0xD7, R240). -/
  | set_2_A
  /-- SET 3,B (0xCB 0xD8, R240). -/
  | set_3_B
  /-- SET 3,C (0xCB 0xD9, R240). -/
  | set_3_C
  /-- SET 3,D (0xCB 0xDA, R240). -/
  | set_3_D
  /-- SET 3,E (0xCB 0xDB, R240). -/
  | set_3_E
  /-- SET 3,H (0xCB 0xDC, R240). -/
  | set_3_H
  /-- SET 3,L (0xCB 0xDD, R240). -/
  | set_3_L
  /-- SET 3,(HL) (0xCB 0xDE, R240). -/
  | set_3_atHL
  /-- SET 3,A (0xCB 0xDF, R240). -/
  | set_3_A
  /-- SET 4,B (0xCB 0xE0, R240). -/
  | set_4_B
  /-- SET 4,C (0xCB 0xE1, R240). -/
  | set_4_C
  /-- SET 4,D (0xCB 0xE2, R240). -/
  | set_4_D
  /-- SET 4,E (0xCB 0xE3, R240). -/
  | set_4_E
  /-- SET 4,H (0xCB 0xE4, R240). -/
  | set_4_H
  /-- SET 4,L (0xCB 0xE5, R240). -/
  | set_4_L
  /-- SET 4,(HL) (0xCB 0xE6, R240). -/
  | set_4_atHL
  /-- SET 4,A (0xCB 0xE7, R240). -/
  | set_4_A
  /-- SET 5,B (0xCB 0xE8, R240). -/
  | set_5_B
  /-- SET 5,C (0xCB 0xE9, R240). -/
  | set_5_C
  /-- SET 5,D (0xCB 0xEA, R240). -/
  | set_5_D
  /-- SET 5,E (0xCB 0xEB, R240). -/
  | set_5_E
  /-- SET 5,H (0xCB 0xEC, R240). -/
  | set_5_H
  /-- SET 5,L (0xCB 0xED, R240). -/
  | set_5_L
  /-- SET 5,(HL) (0xCB 0xEE, R240). -/
  | set_5_atHL
  /-- SET 5,A (0xCB 0xEF, R240). -/
  | set_5_A
  /-- SET 6,B (0xCB 0xF0, R240). -/
  | set_6_B
  /-- SET 6,C (0xCB 0xF1, R240). -/
  | set_6_C
  /-- SET 6,D (0xCB 0xF2, R240). -/
  | set_6_D
  /-- SET 6,E (0xCB 0xF3, R240). -/
  | set_6_E
  /-- SET 6,H (0xCB 0xF4, R240). -/
  | set_6_H
  /-- SET 6,L (0xCB 0xF5, R240). -/
  | set_6_L
  /-- SET 6,(HL) (0xCB 0xF6, R240). -/
  | set_6_atHL
  /-- SET 6,A (0xCB 0xF7, R240). -/
  | set_6_A
  /-- SET 7,B (0xCB 0xF8, R240). -/
  | set_7_B
  /-- SET 7,C (0xCB 0xF9, R240). -/
  | set_7_C
  /-- SET 7,D (0xCB 0xFA, R240). -/
  | set_7_D
  /-- SET 7,E (0xCB 0xFB, R240). -/
  | set_7_E
  /-- SET 7,H (0xCB 0xFC, R240). -/
  | set_7_H
  /-- SET 7,L (0xCB 0xFD, R240). -/
  | set_7_L
  /-- SET 7,(HL) (0xCB 0xFE, R240). -/
  | set_7_atHL
  /-- SET 7,A (0xCB 0xFF, R240). -/
  | set_7_A
  deriving DecidableEq, Repr

end Sys2Proof
end

