-- ==== Sys2Proof/Decode.lean ====
section
/-! DEFINITION. The decoder (30_encoding.md R111 to R124), the encoder, and the host's table words. The constructors
of one encoding shape are named once by a function of their operand codes (R113); the decoder reads the fields x, y, z,
p and q of R112 and calls these. -/

namespace Sys2Proof

/-! ## The constructors of each encoding shape -/

/-- LD r,r' (R140). -/
def Instr.ldRegReg : Reg8 → Reg8 → Instr
  | .b, .b => .ld_B_B
  | .b, .c => .ld_B_C
  | .b, .d => .ld_B_D
  | .b, .e => .ld_B_E
  | .b, .h => .ld_B_H
  | .b, .l => .ld_B_L
  | .b, .a => .ld_B_A
  | .c, .b => .ld_C_B
  | .c, .c => .ld_C_C
  | .c, .d => .ld_C_D
  | .c, .e => .ld_C_E
  | .c, .h => .ld_C_H
  | .c, .l => .ld_C_L
  | .c, .a => .ld_C_A
  | .d, .b => .ld_D_B
  | .d, .c => .ld_D_C
  | .d, .d => .ld_D_D
  | .d, .e => .ld_D_E
  | .d, .h => .ld_D_H
  | .d, .l => .ld_D_L
  | .d, .a => .ld_D_A
  | .e, .b => .ld_E_B
  | .e, .c => .ld_E_C
  | .e, .d => .ld_E_D
  | .e, .e => .ld_E_E
  | .e, .h => .ld_E_H
  | .e, .l => .ld_E_L
  | .e, .a => .ld_E_A
  | .h, .b => .ld_H_B
  | .h, .c => .ld_H_C
  | .h, .d => .ld_H_D
  | .h, .e => .ld_H_E
  | .h, .h => .ld_H_H
  | .h, .l => .ld_H_L
  | .h, .a => .ld_H_A
  | .l, .b => .ld_L_B
  | .l, .c => .ld_L_C
  | .l, .d => .ld_L_D
  | .l, .e => .ld_L_E
  | .l, .h => .ld_L_H
  | .l, .l => .ld_L_L
  | .l, .a => .ld_L_A
  | .a, .b => .ld_A_B
  | .a, .c => .ld_A_C
  | .a, .d => .ld_A_D
  | .a, .e => .ld_A_E
  | .a, .h => .ld_A_H
  | .a, .l => .ld_A_L
  | .a, .a => .ld_A_A

/-- LD r,d8 (R141). -/
def Instr.ldRegImm : Reg8 → Byte → Instr
  | .b, v => .ld_B_d8 v
  | .c, v => .ld_C_d8 v
  | .d, v => .ld_D_d8 v
  | .e, v => .ld_E_d8 v
  | .h, v => .ld_H_d8 v
  | .l, v => .ld_L_d8 v
  | .a, v => .ld_A_d8 v

/-- LD r,(HL) (R142). -/
def Instr.ldRegAtHL : Reg8 → Instr
  | .b => .ld_B_atHL
  | .c => .ld_C_atHL
  | .d => .ld_D_atHL
  | .e => .ld_E_atHL
  | .h => .ld_H_atHL
  | .l => .ld_L_atHL
  | .a => .ld_A_atHL

/-- LD (HL),r (R143). -/
def Instr.ldAtHLReg : Reg8 → Instr
  | .b => .ld_atHL_B
  | .c => .ld_atHL_C
  | .d => .ld_atHL_D
  | .e => .ld_atHL_E
  | .h => .ld_atHL_H
  | .l => .ld_atHL_L
  | .a => .ld_atHL_A

/-- The register and (HL) forms of the eight ALU instructions (R180). -/
def Instr.alu : AluOp → Operand8 → Instr
  | .add, .reg .b => .add_A_B
  | .add, .reg .c => .add_A_C
  | .add, .reg .d => .add_A_D
  | .add, .reg .e => .add_A_E
  | .add, .reg .h => .add_A_H
  | .add, .reg .l => .add_A_L
  | .add, .atHL => .add_A_atHL
  | .add, .reg .a => .add_A_A
  | .adc, .reg .b => .adc_A_B
  | .adc, .reg .c => .adc_A_C
  | .adc, .reg .d => .adc_A_D
  | .adc, .reg .e => .adc_A_E
  | .adc, .reg .h => .adc_A_H
  | .adc, .reg .l => .adc_A_L
  | .adc, .atHL => .adc_A_atHL
  | .adc, .reg .a => .adc_A_A
  | .sub, .reg .b => .sub_B
  | .sub, .reg .c => .sub_C
  | .sub, .reg .d => .sub_D
  | .sub, .reg .e => .sub_E
  | .sub, .reg .h => .sub_H
  | .sub, .reg .l => .sub_L
  | .sub, .atHL => .sub_atHL
  | .sub, .reg .a => .sub_A
  | .sbc, .reg .b => .sbc_A_B
  | .sbc, .reg .c => .sbc_A_C
  | .sbc, .reg .d => .sbc_A_D
  | .sbc, .reg .e => .sbc_A_E
  | .sbc, .reg .h => .sbc_A_H
  | .sbc, .reg .l => .sbc_A_L
  | .sbc, .atHL => .sbc_A_atHL
  | .sbc, .reg .a => .sbc_A_A
  | .and, .reg .b => .and_B
  | .and, .reg .c => .and_C
  | .and, .reg .d => .and_D
  | .and, .reg .e => .and_E
  | .and, .reg .h => .and_H
  | .and, .reg .l => .and_L
  | .and, .atHL => .and_atHL
  | .and, .reg .a => .and_A
  | .xor, .reg .b => .xor_B
  | .xor, .reg .c => .xor_C
  | .xor, .reg .d => .xor_D
  | .xor, .reg .e => .xor_E
  | .xor, .reg .h => .xor_H
  | .xor, .reg .l => .xor_L
  | .xor, .atHL => .xor_atHL
  | .xor, .reg .a => .xor_A
  | .or, .reg .b => .or_B
  | .or, .reg .c => .or_C
  | .or, .reg .d => .or_D
  | .or, .reg .e => .or_E
  | .or, .reg .h => .or_H
  | .or, .reg .l => .or_L
  | .or, .atHL => .or_atHL
  | .or, .reg .a => .or_A
  | .cp, .reg .b => .cp_B
  | .cp, .reg .c => .cp_C
  | .cp, .reg .d => .cp_D
  | .cp, .reg .e => .cp_E
  | .cp, .reg .h => .cp_H
  | .cp, .reg .l => .cp_L
  | .cp, .atHL => .cp_atHL
  | .cp, .reg .a => .cp_A

/-- The immediate forms of the eight ALU instructions (R180). -/
def Instr.aluImm : AluOp → Byte → Instr
  | .add, v => .add_A_d8 v
  | .adc, v => .adc_A_d8 v
  | .sub, v => .sub_d8 v
  | .sbc, v => .sbc_A_d8 v
  | .and, v => .and_d8 v
  | .xor, v => .xor_d8 v
  | .or, v => .or_d8 v
  | .cp, v => .cp_d8 v

/-- INC r and INC (HL) (R191, R192). -/
def Instr.inc8 : Operand8 → Instr
  | .reg .b => .inc_B
  | .reg .c => .inc_C
  | .reg .d => .inc_D
  | .reg .e => .inc_E
  | .reg .h => .inc_H
  | .reg .l => .inc_L
  | .atHL => .inc_atHL
  | .reg .a => .inc_A

/-- DEC r and DEC (HL) (R193, R194). -/
def Instr.dec8 : Operand8 → Instr
  | .reg .b => .dec_B
  | .reg .c => .dec_C
  | .reg .d => .dec_D
  | .reg .e => .dec_E
  | .reg .h => .dec_H
  | .reg .l => .dec_L
  | .atHL => .dec_atHL
  | .reg .a => .dec_A

/-- LD rr,d16 (R157). -/
def Instr.ldPairImm : Pair → Word → Instr
  | .bc, v => .ld_BC_d16 v
  | .de, v => .ld_DE_d16 v
  | .hl, v => .ld_HL_d16 v
  | .sp, v => .ld_SP_d16 v

/-- INC rr (R212). -/
def Instr.incPair : Pair → Instr
  | .bc => .inc_BC
  | .de => .inc_DE
  | .hl => .inc_HL
  | .sp => .inc_SP

/-- DEC rr (R213). -/
def Instr.decPair : Pair → Instr
  | .bc => .dec_BC
  | .de => .dec_DE
  | .hl => .dec_HL
  | .sp => .dec_SP

/-- ADD HL,rr (R211). -/
def Instr.addHL : Pair → Instr
  | .bc => .add_HL_BC
  | .de => .add_HL_DE
  | .hl => .add_HL_HL
  | .sp => .add_HL_SP

/-- PUSH rr (R162). -/
def Instr.push : StackPair → Instr
  | .bc => .push_BC
  | .de => .push_DE
  | .hl => .push_HL
  | .af => .push_AF

/-- POP rr (R163). -/
def Instr.pop : StackPair → Instr
  | .bc => .pop_BC
  | .de => .pop_DE
  | .hl => .pop_HL
  | .af => .pop_AF

/-- JP cc,a16 (R251). -/
def Instr.jpIf : Cond → Word → Instr
  | .nz, a => .jp_NZ_a16 a
  | .z, a => .jp_Z_a16 a
  | .nc, a => .jp_NC_a16 a
  | .c, a => .jp_C_a16 a

/-- JR cc,e8 (R254). -/
def Instr.jrIf : Cond → Byte → Instr
  | .nz, e => .jr_NZ_e8 e
  | .z, e => .jr_Z_e8 e
  | .nc, e => .jr_NC_e8 e
  | .c, e => .jr_C_e8 e

/-- CALL cc,a16 (R256). -/
def Instr.callIf : Cond → Word → Instr
  | .nz, a => .call_NZ_a16 a
  | .z, a => .call_Z_a16 a
  | .nc, a => .call_NC_a16 a
  | .c, a => .call_C_a16 a

/-- RET cc (R258). -/
def Instr.retIf : Cond → Instr
  | .nz => .ret_NZ
  | .z => .ret_Z
  | .nc => .ret_NC
  | .c => .ret_C

/-- RST t with t = 8 * y (R260). -/
def Instr.rst : Field3 → Instr
  | .n0 => .rst_00H
  | .n1 => .rst_08H
  | .n2 => .rst_10H
  | .n3 => .rst_18H
  | .n4 => .rst_20H
  | .n5 => .rst_28H
  | .n6 => .rst_30H
  | .n7 => .rst_38H

/-- The CB rotates, shifts and SWAP (R230 to R237). -/
def Instr.rotate : RotOp → Operand8 → Instr
  | .rlc, .reg .b => .rlc_B
  | .rlc, .reg .c => .rlc_C
  | .rlc, .reg .d => .rlc_D
  | .rlc, .reg .e => .rlc_E
  | .rlc, .reg .h => .rlc_H
  | .rlc, .reg .l => .rlc_L
  | .rlc, .atHL => .rlc_atHL
  | .rlc, .reg .a => .rlc_A
  | .rrc, .reg .b => .rrc_B
  | .rrc, .reg .c => .rrc_C
  | .rrc, .reg .d => .rrc_D
  | .rrc, .reg .e => .rrc_E
  | .rrc, .reg .h => .rrc_H
  | .rrc, .reg .l => .rrc_L
  | .rrc, .atHL => .rrc_atHL
  | .rrc, .reg .a => .rrc_A
  | .rl, .reg .b => .rl_B
  | .rl, .reg .c => .rl_C
  | .rl, .reg .d => .rl_D
  | .rl, .reg .e => .rl_E
  | .rl, .reg .h => .rl_H
  | .rl, .reg .l => .rl_L
  | .rl, .atHL => .rl_atHL
  | .rl, .reg .a => .rl_A
  | .rr, .reg .b => .rr_B
  | .rr, .reg .c => .rr_C
  | .rr, .reg .d => .rr_D
  | .rr, .reg .e => .rr_E
  | .rr, .reg .h => .rr_H
  | .rr, .reg .l => .rr_L
  | .rr, .atHL => .rr_atHL
  | .rr, .reg .a => .rr_A
  | .sla, .reg .b => .sla_B
  | .sla, .reg .c => .sla_C
  | .sla, .reg .d => .sla_D
  | .sla, .reg .e => .sla_E
  | .sla, .reg .h => .sla_H
  | .sla, .reg .l => .sla_L
  | .sla, .atHL => .sla_atHL
  | .sla, .reg .a => .sla_A
  | .sra, .reg .b => .sra_B
  | .sra, .reg .c => .sra_C
  | .sra, .reg .d => .sra_D
  | .sra, .reg .e => .sra_E
  | .sra, .reg .h => .sra_H
  | .sra, .reg .l => .sra_L
  | .sra, .atHL => .sra_atHL
  | .sra, .reg .a => .sra_A
  | .swap, .reg .b => .swap_B
  | .swap, .reg .c => .swap_C
  | .swap, .reg .d => .swap_D
  | .swap, .reg .e => .swap_E
  | .swap, .reg .h => .swap_H
  | .swap, .reg .l => .swap_L
  | .swap, .atHL => .swap_atHL
  | .swap, .reg .a => .swap_A
  | .srl, .reg .b => .srl_B
  | .srl, .reg .c => .srl_C
  | .srl, .reg .d => .srl_D
  | .srl, .reg .e => .srl_E
  | .srl, .reg .h => .srl_H
  | .srl, .reg .l => .srl_L
  | .srl, .atHL => .srl_atHL
  | .srl, .reg .a => .srl_A

/-- BIT b,r (R238). -/
def Instr.bitTest : Field3 → Operand8 → Instr
  | .n0, .reg .b => .bit_0_B
  | .n0, .reg .c => .bit_0_C
  | .n0, .reg .d => .bit_0_D
  | .n0, .reg .e => .bit_0_E
  | .n0, .reg .h => .bit_0_H
  | .n0, .reg .l => .bit_0_L
  | .n0, .atHL => .bit_0_atHL
  | .n0, .reg .a => .bit_0_A
  | .n1, .reg .b => .bit_1_B
  | .n1, .reg .c => .bit_1_C
  | .n1, .reg .d => .bit_1_D
  | .n1, .reg .e => .bit_1_E
  | .n1, .reg .h => .bit_1_H
  | .n1, .reg .l => .bit_1_L
  | .n1, .atHL => .bit_1_atHL
  | .n1, .reg .a => .bit_1_A
  | .n2, .reg .b => .bit_2_B
  | .n2, .reg .c => .bit_2_C
  | .n2, .reg .d => .bit_2_D
  | .n2, .reg .e => .bit_2_E
  | .n2, .reg .h => .bit_2_H
  | .n2, .reg .l => .bit_2_L
  | .n2, .atHL => .bit_2_atHL
  | .n2, .reg .a => .bit_2_A
  | .n3, .reg .b => .bit_3_B
  | .n3, .reg .c => .bit_3_C
  | .n3, .reg .d => .bit_3_D
  | .n3, .reg .e => .bit_3_E
  | .n3, .reg .h => .bit_3_H
  | .n3, .reg .l => .bit_3_L
  | .n3, .atHL => .bit_3_atHL
  | .n3, .reg .a => .bit_3_A
  | .n4, .reg .b => .bit_4_B
  | .n4, .reg .c => .bit_4_C
  | .n4, .reg .d => .bit_4_D
  | .n4, .reg .e => .bit_4_E
  | .n4, .reg .h => .bit_4_H
  | .n4, .reg .l => .bit_4_L
  | .n4, .atHL => .bit_4_atHL
  | .n4, .reg .a => .bit_4_A
  | .n5, .reg .b => .bit_5_B
  | .n5, .reg .c => .bit_5_C
  | .n5, .reg .d => .bit_5_D
  | .n5, .reg .e => .bit_5_E
  | .n5, .reg .h => .bit_5_H
  | .n5, .reg .l => .bit_5_L
  | .n5, .atHL => .bit_5_atHL
  | .n5, .reg .a => .bit_5_A
  | .n6, .reg .b => .bit_6_B
  | .n6, .reg .c => .bit_6_C
  | .n6, .reg .d => .bit_6_D
  | .n6, .reg .e => .bit_6_E
  | .n6, .reg .h => .bit_6_H
  | .n6, .reg .l => .bit_6_L
  | .n6, .atHL => .bit_6_atHL
  | .n6, .reg .a => .bit_6_A
  | .n7, .reg .b => .bit_7_B
  | .n7, .reg .c => .bit_7_C
  | .n7, .reg .d => .bit_7_D
  | .n7, .reg .e => .bit_7_E
  | .n7, .reg .h => .bit_7_H
  | .n7, .reg .l => .bit_7_L
  | .n7, .atHL => .bit_7_atHL
  | .n7, .reg .a => .bit_7_A

/-- RES b,r (R239). -/
def Instr.bitReset : Field3 → Operand8 → Instr
  | .n0, .reg .b => .res_0_B
  | .n0, .reg .c => .res_0_C
  | .n0, .reg .d => .res_0_D
  | .n0, .reg .e => .res_0_E
  | .n0, .reg .h => .res_0_H
  | .n0, .reg .l => .res_0_L
  | .n0, .atHL => .res_0_atHL
  | .n0, .reg .a => .res_0_A
  | .n1, .reg .b => .res_1_B
  | .n1, .reg .c => .res_1_C
  | .n1, .reg .d => .res_1_D
  | .n1, .reg .e => .res_1_E
  | .n1, .reg .h => .res_1_H
  | .n1, .reg .l => .res_1_L
  | .n1, .atHL => .res_1_atHL
  | .n1, .reg .a => .res_1_A
  | .n2, .reg .b => .res_2_B
  | .n2, .reg .c => .res_2_C
  | .n2, .reg .d => .res_2_D
  | .n2, .reg .e => .res_2_E
  | .n2, .reg .h => .res_2_H
  | .n2, .reg .l => .res_2_L
  | .n2, .atHL => .res_2_atHL
  | .n2, .reg .a => .res_2_A
  | .n3, .reg .b => .res_3_B
  | .n3, .reg .c => .res_3_C
  | .n3, .reg .d => .res_3_D
  | .n3, .reg .e => .res_3_E
  | .n3, .reg .h => .res_3_H
  | .n3, .reg .l => .res_3_L
  | .n3, .atHL => .res_3_atHL
  | .n3, .reg .a => .res_3_A
  | .n4, .reg .b => .res_4_B
  | .n4, .reg .c => .res_4_C
  | .n4, .reg .d => .res_4_D
  | .n4, .reg .e => .res_4_E
  | .n4, .reg .h => .res_4_H
  | .n4, .reg .l => .res_4_L
  | .n4, .atHL => .res_4_atHL
  | .n4, .reg .a => .res_4_A
  | .n5, .reg .b => .res_5_B
  | .n5, .reg .c => .res_5_C
  | .n5, .reg .d => .res_5_D
  | .n5, .reg .e => .res_5_E
  | .n5, .reg .h => .res_5_H
  | .n5, .reg .l => .res_5_L
  | .n5, .atHL => .res_5_atHL
  | .n5, .reg .a => .res_5_A
  | .n6, .reg .b => .res_6_B
  | .n6, .reg .c => .res_6_C
  | .n6, .reg .d => .res_6_D
  | .n6, .reg .e => .res_6_E
  | .n6, .reg .h => .res_6_H
  | .n6, .reg .l => .res_6_L
  | .n6, .atHL => .res_6_atHL
  | .n6, .reg .a => .res_6_A
  | .n7, .reg .b => .res_7_B
  | .n7, .reg .c => .res_7_C
  | .n7, .reg .d => .res_7_D
  | .n7, .reg .e => .res_7_E
  | .n7, .reg .h => .res_7_H
  | .n7, .reg .l => .res_7_L
  | .n7, .atHL => .res_7_atHL
  | .n7, .reg .a => .res_7_A

/-- SET b,r (R240). -/
def Instr.bitSet : Field3 → Operand8 → Instr
  | .n0, .reg .b => .set_0_B
  | .n0, .reg .c => .set_0_C
  | .n0, .reg .d => .set_0_D
  | .n0, .reg .e => .set_0_E
  | .n0, .reg .h => .set_0_H
  | .n0, .reg .l => .set_0_L
  | .n0, .atHL => .set_0_atHL
  | .n0, .reg .a => .set_0_A
  | .n1, .reg .b => .set_1_B
  | .n1, .reg .c => .set_1_C
  | .n1, .reg .d => .set_1_D
  | .n1, .reg .e => .set_1_E
  | .n1, .reg .h => .set_1_H
  | .n1, .reg .l => .set_1_L
  | .n1, .atHL => .set_1_atHL
  | .n1, .reg .a => .set_1_A
  | .n2, .reg .b => .set_2_B
  | .n2, .reg .c => .set_2_C
  | .n2, .reg .d => .set_2_D
  | .n2, .reg .e => .set_2_E
  | .n2, .reg .h => .set_2_H
  | .n2, .reg .l => .set_2_L
  | .n2, .atHL => .set_2_atHL
  | .n2, .reg .a => .set_2_A
  | .n3, .reg .b => .set_3_B
  | .n3, .reg .c => .set_3_C
  | .n3, .reg .d => .set_3_D
  | .n3, .reg .e => .set_3_E
  | .n3, .reg .h => .set_3_H
  | .n3, .reg .l => .set_3_L
  | .n3, .atHL => .set_3_atHL
  | .n3, .reg .a => .set_3_A
  | .n4, .reg .b => .set_4_B
  | .n4, .reg .c => .set_4_C
  | .n4, .reg .d => .set_4_D
  | .n4, .reg .e => .set_4_E
  | .n4, .reg .h => .set_4_H
  | .n4, .reg .l => .set_4_L
  | .n4, .atHL => .set_4_atHL
  | .n4, .reg .a => .set_4_A
  | .n5, .reg .b => .set_5_B
  | .n5, .reg .c => .set_5_C
  | .n5, .reg .d => .set_5_D
  | .n5, .reg .e => .set_5_E
  | .n5, .reg .h => .set_5_H
  | .n5, .reg .l => .set_5_L
  | .n5, .atHL => .set_5_atHL
  | .n5, .reg .a => .set_5_A
  | .n6, .reg .b => .set_6_B
  | .n6, .reg .c => .set_6_C
  | .n6, .reg .d => .set_6_D
  | .n6, .reg .e => .set_6_E
  | .n6, .reg .h => .set_6_H
  | .n6, .reg .l => .set_6_L
  | .n6, .atHL => .set_6_atHL
  | .n6, .reg .a => .set_6_A
  | .n7, .reg .b => .set_7_B
  | .n7, .reg .c => .set_7_C
  | .n7, .reg .d => .set_7_D
  | .n7, .reg .e => .set_7_E
  | .n7, .reg .h => .set_7_H
  | .n7, .reg .l => .set_7_L
  | .n7, .atHL => .set_7_atHL
  | .n7, .reg .a => .set_7_A

/-! ## The fields of R113 -/

/-- The r8 column. -/
def operandOf : Nat → Operand8
  | 0 => .reg .b
  | 1 => .reg .c
  | 2 => .reg .d
  | 3 => .reg .e
  | 4 => .reg .h
  | 5 => .reg .l
  | 6 => .atHL
  | _ => .reg .a

/-- The rp column. -/
def pairOf : Nat → Pair
  | 0 => .bc
  | 1 => .de
  | 2 => .hl
  | _ => .sp

/-- The rp2 column. -/
def stackPairOf : Nat → StackPair
  | 0 => .bc
  | 1 => .de
  | 2 => .hl
  | _ => .af

/-- The cc column. -/
def condOf : Nat → Cond
  | 0 => .nz
  | 1 => .z
  | 2 => .nc
  | _ => .c

/-- The alu column. -/
def aluOf : Nat → AluOp
  | 0 => .add
  | 1 => .adc
  | 2 => .sub
  | 3 => .sbc
  | 4 => .and
  | 5 => .xor
  | 6 => .or
  | _ => .cp

/-- The rot column. -/
def rotOf : Nat → RotOp
  | 0 => .rlc
  | 1 => .rrc
  | 2 => .rl
  | 3 => .rr
  | 4 => .sla
  | 5 => .sra
  | 6 => .swap
  | _ => .srl

/-- A 3-bit field. -/
def field3Of : Nat → Field3
  | 0 => .n0
  | 1 => .n1
  | 2 => .n2
  | 3 => .n3
  | 4 => .n4
  | 5 => .n5
  | 6 => .n6
  | _ => .n7

/-! ## The decoder -/

/-- The second table (R120): `x = op2[7:6]` selects the group, `y = op2[5:3]` and `z = op2[2:0]`. -/
def decodeCB (op2 : Byte) : Instr :=
  let y := op2.toNat / 8 % 8
  let z := op2.toNat % 8
  match op2.toNat / 64 with
  | 0 => .rotate (rotOf y) (operandOf z)
  | 1 => .bitTest (field3Of y) (operandOf z)
  | 2 => .bitReset (field3Of y) (operandOf z)
  | _ => .bitSet (field3Of y) (operandOf z)

/-- `LD` with both operands r8 codes, `01 yyy zzz`: two codes 6 together are HALT (R140 to R143, R276). -/
def decodeLoad : Operand8 → Operand8 → Instr
  | .reg dst, .reg src => .ldRegReg dst src
  | .reg dst, .atHL => .ldRegAtHL dst
  | .atHL, .reg src => .ldAtHLReg src
  | .atHL, .atHL => .halt

/-- `LD` of an immediate byte, `00 yyy 110` (R141, R144). -/
def decodeLoadImm : Operand8 → Byte → Instr
  | .reg dst, v => .ldRegImm dst v
  | .atHL, v => .ld_atHL_d8 v

/-- The quarter `00 yyy zzz` of the primary map (R116). -/
def decodeX0 (y z : Nat) (b1 b2 : Byte) : Instr :=
  let p := pairOf (y / 2)
  let q := y % 2
  match z with
  | 0 =>
    match y with
    | 0 => .nop
    | 1 => .ld_atA16_SP (Machine.pack b2 b1)
    | 2 => .stop b1
    | 3 => .jr_e8 b1
    | _ => .jrIf (condOf (y - 4)) b1
  | 1 => if q = 0 then .ldPairImm p (Machine.pack b2 b1) else .addHL p
  | 2 =>
    match y with
    | 0 => .ld_atBC_A
    | 1 => .ld_A_atBC
    | 2 => .ld_atDE_A
    | 3 => .ld_A_atDE
    | 4 => .ld_atHLinc_A
    | 5 => .ld_A_atHLinc
    | 6 => .ld_atHLdec_A
    | _ => .ld_A_atHLdec
  | 3 => if q = 0 then .incPair p else .decPair p
  | 4 => .inc8 (operandOf y)
  | 5 => .dec8 (operandOf y)
  | 6 => decodeLoadImm (operandOf y) b1
  | _ =>
    match y with
    | 0 => .rlca
    | 1 => .rrca
    | 2 => .rla
    | 3 => .rra
    | 4 => .daa
    | 5 => .cpl
    | 6 => .scf
    | _ => .ccf

/-- The quarter `11 yyy zzz` of the primary map (R116), with the prefix (R124) and the illegal slots (R117). -/
def decodeX3 (y z : Nat) (b1 b2 : Byte) : Instr :=
  let p := y / 2
  let q := y % 2
  match z with
  | 0 =>
    match y with
    | 4 => .ldh_atA8_A b1
    | 5 => .add_SP_e8 b1
    | 6 => .ldh_A_atA8 b1
    | 7 => .ld_HL_SPe8 b1
    | _ => .retIf (condOf y)
  | 1 =>
    if q = 0 then .pop (stackPairOf p)
    else
      match p with
      | 0 => .ret
      | 1 => .reti
      | 2 => .jp_HL
      | _ => .ld_SP_HL
  | 2 =>
    match y with
    | 4 => .ld_atC_A
    | 5 => .ld_atA16_A (Machine.pack b2 b1)
    | 6 => .ld_A_atC
    | 7 => .ld_A_atA16 (Machine.pack b2 b1)
    | _ => .jpIf (condOf y) (Machine.pack b2 b1)
  | 3 =>
    match y with
    | 0 => .jp_a16 (Machine.pack b2 b1)
    | 1 => decodeCB b1
    | 2 => .illegal_D3
    | 3 => .illegal_DB
    | 4 => .illegal_E3
    | 5 => .illegal_EB
    | 6 => .di
    | _ => .ei
  | 4 =>
    match y with
    | 4 => .illegal_E4
    | 5 => .illegal_EC
    | 6 => .illegal_F4
    | 7 => .illegal_FC
    | _ => .callIf (condOf y) (Machine.pack b2 b1)
  | 5 =>
    if q = 0 then .push (stackPairOf p)
    else
      match p with
      | 0 => .call_a16 (Machine.pack b2 b1)
      | 1 => .illegal_DD
      | 2 => .illegal_ED
      | _ => .illegal_FD
  | 6 => .aluImm (aluOf y) b1
  | _ => .rst (field3Of y)

/-- The instruction that three bytes begin with (R111). Total: every primary slot is an instruction, the prefix or an
illegal slot, and every CB slot is an instruction (R122). Bytes past the instruction's length are not used. -/
def decode (b0 b1 b2 : Byte) : Instr :=
  let y := b0.toNat / 8 % 8
  let z := b0.toNat % 8
  match b0.toNat / 64 with
  | 0 => decodeX0 y z b1 b2
  | 1 => decodeLoad (operandOf y) (operandOf z)
  | 2 => .alu (aluOf y) (operandOf z)
  | _ => decodeX3 y z b1 b2

/-- The length of an instruction by its opcode byte (R110, the second table of R119; 2 for the prefix, 1 for an illegal
slot as in spec/opcode_table.json). -/
def lengthOf (op : Byte) : Nat :=
  let row : List Nat :=
    match op.toNat / 16 with
    | 0 => [1, 3, 1, 1, 1, 1, 2, 1, 3, 1, 1, 1, 1, 1, 2, 1]
    | 1 => [2, 3, 1, 1, 1, 1, 2, 1, 2, 1, 1, 1, 1, 1, 2, 1]
    | 2 => [2, 3, 1, 1, 1, 1, 2, 1, 2, 1, 1, 1, 1, 1, 2, 1]
    | 3 => [2, 3, 1, 1, 1, 1, 2, 1, 2, 1, 1, 1, 1, 1, 2, 1]
    | 12 => [1, 1, 3, 3, 3, 1, 2, 1, 1, 1, 3, 2, 3, 3, 2, 1]
    | 13 => [1, 1, 3, 1, 3, 1, 2, 1, 1, 1, 3, 1, 3, 1, 2, 1]
    | 14 => [2, 1, 1, 1, 1, 1, 2, 1, 2, 1, 3, 1, 1, 1, 2, 1]
    | 15 => [2, 1, 1, 1, 1, 1, 2, 1, 2, 1, 3, 1, 1, 1, 2, 1]
    | _ => List.replicate 16 1
  row.getD (op.toNat % 16) 1

/-- Why a list of bytes begins with no whole instruction. -/
inductive DecodeError where
  | noBytes
  | truncated (opcode : Byte)
  deriving DecidableEq, Repr

/-- The instruction a list of bytes begins with, and the rest of the list; a list too short for its opcode is rejected
by name. -/
def decodeBytes : List Byte → Except DecodeError (Instr × List Byte)
  | [] => .error .noBytes
  | b0 :: rest =>
    if rest.length + 1 < lengthOf b0 then .error (.truncated b0)
    else .ok (decode b0 (rest.getD 0 0) (rest.getD 1 0), rest.drop (lengthOf b0 - 1))

/-! ## The encoder -/

/-- The bytes of an instruction, from the `match` column of spec/opcode_table.json and the operand layout of R112 and
R115. -/
def encode : Instr → List Byte
  | .nop => [0x00]
  | .ld_BC_d16 d16 => [0x01, Machine.lo d16, Machine.hi d16]
  | .ld_atBC_A => [0x02]
  | .inc_BC => [0x03]
  | .inc_B => [0x04]
  | .dec_B => [0x05]
  | .ld_B_d8 d8 => [0x06, d8]
  | .rlca => [0x07]
  | .ld_atA16_SP a16 => [0x08, Machine.lo a16, Machine.hi a16]
  | .add_HL_BC => [0x09]
  | .ld_A_atBC => [0x0A]
  | .dec_BC => [0x0B]
  | .inc_C => [0x0C]
  | .dec_C => [0x0D]
  | .ld_C_d8 d8 => [0x0E, d8]
  | .rrca => [0x0F]
  | .stop ignored => [0x10, ignored]
  | .ld_DE_d16 d16 => [0x11, Machine.lo d16, Machine.hi d16]
  | .ld_atDE_A => [0x12]
  | .inc_DE => [0x13]
  | .inc_D => [0x14]
  | .dec_D => [0x15]
  | .ld_D_d8 d8 => [0x16, d8]
  | .rla => [0x17]
  | .jr_e8 e8 => [0x18, e8]
  | .add_HL_DE => [0x19]
  | .ld_A_atDE => [0x1A]
  | .dec_DE => [0x1B]
  | .inc_E => [0x1C]
  | .dec_E => [0x1D]
  | .ld_E_d8 d8 => [0x1E, d8]
  | .rra => [0x1F]
  | .jr_NZ_e8 e8 => [0x20, e8]
  | .ld_HL_d16 d16 => [0x21, Machine.lo d16, Machine.hi d16]
  | .ld_atHLinc_A => [0x22]
  | .inc_HL => [0x23]
  | .inc_H => [0x24]
  | .dec_H => [0x25]
  | .ld_H_d8 d8 => [0x26, d8]
  | .daa => [0x27]
  | .jr_Z_e8 e8 => [0x28, e8]
  | .add_HL_HL => [0x29]
  | .ld_A_atHLinc => [0x2A]
  | .dec_HL => [0x2B]
  | .inc_L => [0x2C]
  | .dec_L => [0x2D]
  | .ld_L_d8 d8 => [0x2E, d8]
  | .cpl => [0x2F]
  | .jr_NC_e8 e8 => [0x30, e8]
  | .ld_SP_d16 d16 => [0x31, Machine.lo d16, Machine.hi d16]
  | .ld_atHLdec_A => [0x32]
  | .inc_SP => [0x33]
  | .inc_atHL => [0x34]
  | .dec_atHL => [0x35]
  | .ld_atHL_d8 d8 => [0x36, d8]
  | .scf => [0x37]
  | .jr_C_e8 e8 => [0x38, e8]
  | .add_HL_SP => [0x39]
  | .ld_A_atHLdec => [0x3A]
  | .dec_SP => [0x3B]
  | .inc_A => [0x3C]
  | .dec_A => [0x3D]
  | .ld_A_d8 d8 => [0x3E, d8]
  | .ccf => [0x3F]
  | .ld_B_B => [0x40]
  | .ld_B_C => [0x41]
  | .ld_B_D => [0x42]
  | .ld_B_E => [0x43]
  | .ld_B_H => [0x44]
  | .ld_B_L => [0x45]
  | .ld_B_atHL => [0x46]
  | .ld_B_A => [0x47]
  | .ld_C_B => [0x48]
  | .ld_C_C => [0x49]
  | .ld_C_D => [0x4A]
  | .ld_C_E => [0x4B]
  | .ld_C_H => [0x4C]
  | .ld_C_L => [0x4D]
  | .ld_C_atHL => [0x4E]
  | .ld_C_A => [0x4F]
  | .ld_D_B => [0x50]
  | .ld_D_C => [0x51]
  | .ld_D_D => [0x52]
  | .ld_D_E => [0x53]
  | .ld_D_H => [0x54]
  | .ld_D_L => [0x55]
  | .ld_D_atHL => [0x56]
  | .ld_D_A => [0x57]
  | .ld_E_B => [0x58]
  | .ld_E_C => [0x59]
  | .ld_E_D => [0x5A]
  | .ld_E_E => [0x5B]
  | .ld_E_H => [0x5C]
  | .ld_E_L => [0x5D]
  | .ld_E_atHL => [0x5E]
  | .ld_E_A => [0x5F]
  | .ld_H_B => [0x60]
  | .ld_H_C => [0x61]
  | .ld_H_D => [0x62]
  | .ld_H_E => [0x63]
  | .ld_H_H => [0x64]
  | .ld_H_L => [0x65]
  | .ld_H_atHL => [0x66]
  | .ld_H_A => [0x67]
  | .ld_L_B => [0x68]
  | .ld_L_C => [0x69]
  | .ld_L_D => [0x6A]
  | .ld_L_E => [0x6B]
  | .ld_L_H => [0x6C]
  | .ld_L_L => [0x6D]
  | .ld_L_atHL => [0x6E]
  | .ld_L_A => [0x6F]
  | .ld_atHL_B => [0x70]
  | .ld_atHL_C => [0x71]
  | .ld_atHL_D => [0x72]
  | .ld_atHL_E => [0x73]
  | .ld_atHL_H => [0x74]
  | .ld_atHL_L => [0x75]
  | .halt => [0x76]
  | .ld_atHL_A => [0x77]
  | .ld_A_B => [0x78]
  | .ld_A_C => [0x79]
  | .ld_A_D => [0x7A]
  | .ld_A_E => [0x7B]
  | .ld_A_H => [0x7C]
  | .ld_A_L => [0x7D]
  | .ld_A_atHL => [0x7E]
  | .ld_A_A => [0x7F]
  | .add_A_B => [0x80]
  | .add_A_C => [0x81]
  | .add_A_D => [0x82]
  | .add_A_E => [0x83]
  | .add_A_H => [0x84]
  | .add_A_L => [0x85]
  | .add_A_atHL => [0x86]
  | .add_A_A => [0x87]
  | .adc_A_B => [0x88]
  | .adc_A_C => [0x89]
  | .adc_A_D => [0x8A]
  | .adc_A_E => [0x8B]
  | .adc_A_H => [0x8C]
  | .adc_A_L => [0x8D]
  | .adc_A_atHL => [0x8E]
  | .adc_A_A => [0x8F]
  | .sub_B => [0x90]
  | .sub_C => [0x91]
  | .sub_D => [0x92]
  | .sub_E => [0x93]
  | .sub_H => [0x94]
  | .sub_L => [0x95]
  | .sub_atHL => [0x96]
  | .sub_A => [0x97]
  | .sbc_A_B => [0x98]
  | .sbc_A_C => [0x99]
  | .sbc_A_D => [0x9A]
  | .sbc_A_E => [0x9B]
  | .sbc_A_H => [0x9C]
  | .sbc_A_L => [0x9D]
  | .sbc_A_atHL => [0x9E]
  | .sbc_A_A => [0x9F]
  | .and_B => [0xA0]
  | .and_C => [0xA1]
  | .and_D => [0xA2]
  | .and_E => [0xA3]
  | .and_H => [0xA4]
  | .and_L => [0xA5]
  | .and_atHL => [0xA6]
  | .and_A => [0xA7]
  | .xor_B => [0xA8]
  | .xor_C => [0xA9]
  | .xor_D => [0xAA]
  | .xor_E => [0xAB]
  | .xor_H => [0xAC]
  | .xor_L => [0xAD]
  | .xor_atHL => [0xAE]
  | .xor_A => [0xAF]
  | .or_B => [0xB0]
  | .or_C => [0xB1]
  | .or_D => [0xB2]
  | .or_E => [0xB3]
  | .or_H => [0xB4]
  | .or_L => [0xB5]
  | .or_atHL => [0xB6]
  | .or_A => [0xB7]
  | .cp_B => [0xB8]
  | .cp_C => [0xB9]
  | .cp_D => [0xBA]
  | .cp_E => [0xBB]
  | .cp_H => [0xBC]
  | .cp_L => [0xBD]
  | .cp_atHL => [0xBE]
  | .cp_A => [0xBF]
  | .ret_NZ => [0xC0]
  | .pop_BC => [0xC1]
  | .jp_NZ_a16 a16 => [0xC2, Machine.lo a16, Machine.hi a16]
  | .jp_a16 a16 => [0xC3, Machine.lo a16, Machine.hi a16]
  | .call_NZ_a16 a16 => [0xC4, Machine.lo a16, Machine.hi a16]
  | .push_BC => [0xC5]
  | .add_A_d8 d8 => [0xC6, d8]
  | .rst_00H => [0xC7]
  | .ret_Z => [0xC8]
  | .ret => [0xC9]
  | .jp_Z_a16 a16 => [0xCA, Machine.lo a16, Machine.hi a16]
  | .call_Z_a16 a16 => [0xCC, Machine.lo a16, Machine.hi a16]
  | .call_a16 a16 => [0xCD, Machine.lo a16, Machine.hi a16]
  | .adc_A_d8 d8 => [0xCE, d8]
  | .rst_08H => [0xCF]
  | .ret_NC => [0xD0]
  | .pop_DE => [0xD1]
  | .jp_NC_a16 a16 => [0xD2, Machine.lo a16, Machine.hi a16]
  | .illegal_D3 => [0xD3]
  | .call_NC_a16 a16 => [0xD4, Machine.lo a16, Machine.hi a16]
  | .push_DE => [0xD5]
  | .sub_d8 d8 => [0xD6, d8]
  | .rst_10H => [0xD7]
  | .ret_C => [0xD8]
  | .reti => [0xD9]
  | .jp_C_a16 a16 => [0xDA, Machine.lo a16, Machine.hi a16]
  | .illegal_DB => [0xDB]
  | .call_C_a16 a16 => [0xDC, Machine.lo a16, Machine.hi a16]
  | .illegal_DD => [0xDD]
  | .sbc_A_d8 d8 => [0xDE, d8]
  | .rst_18H => [0xDF]
  | .ldh_atA8_A a8 => [0xE0, a8]
  | .pop_HL => [0xE1]
  | .ld_atC_A => [0xE2]
  | .illegal_E3 => [0xE3]
  | .illegal_E4 => [0xE4]
  | .push_HL => [0xE5]
  | .and_d8 d8 => [0xE6, d8]
  | .rst_20H => [0xE7]
  | .add_SP_e8 e8 => [0xE8, e8]
  | .jp_HL => [0xE9]
  | .ld_atA16_A a16 => [0xEA, Machine.lo a16, Machine.hi a16]
  | .illegal_EB => [0xEB]
  | .illegal_EC => [0xEC]
  | .illegal_ED => [0xED]
  | .xor_d8 d8 => [0xEE, d8]
  | .rst_28H => [0xEF]
  | .ldh_A_atA8 a8 => [0xF0, a8]
  | .pop_AF => [0xF1]
  | .ld_A_atC => [0xF2]
  | .di => [0xF3]
  | .illegal_F4 => [0xF4]
  | .push_AF => [0xF5]
  | .or_d8 d8 => [0xF6, d8]
  | .rst_30H => [0xF7]
  | .ld_HL_SPe8 e8 => [0xF8, e8]
  | .ld_SP_HL => [0xF9]
  | .ld_A_atA16 a16 => [0xFA, Machine.lo a16, Machine.hi a16]
  | .ei => [0xFB]
  | .illegal_FC => [0xFC]
  | .illegal_FD => [0xFD]
  | .cp_d8 d8 => [0xFE, d8]
  | .rst_38H => [0xFF]
  | .rlc_B => [0xCB, 0x00]
  | .rlc_C => [0xCB, 0x01]
  | .rlc_D => [0xCB, 0x02]
  | .rlc_E => [0xCB, 0x03]
  | .rlc_H => [0xCB, 0x04]
  | .rlc_L => [0xCB, 0x05]
  | .rlc_atHL => [0xCB, 0x06]
  | .rlc_A => [0xCB, 0x07]
  | .rrc_B => [0xCB, 0x08]
  | .rrc_C => [0xCB, 0x09]
  | .rrc_D => [0xCB, 0x0A]
  | .rrc_E => [0xCB, 0x0B]
  | .rrc_H => [0xCB, 0x0C]
  | .rrc_L => [0xCB, 0x0D]
  | .rrc_atHL => [0xCB, 0x0E]
  | .rrc_A => [0xCB, 0x0F]
  | .rl_B => [0xCB, 0x10]
  | .rl_C => [0xCB, 0x11]
  | .rl_D => [0xCB, 0x12]
  | .rl_E => [0xCB, 0x13]
  | .rl_H => [0xCB, 0x14]
  | .rl_L => [0xCB, 0x15]
  | .rl_atHL => [0xCB, 0x16]
  | .rl_A => [0xCB, 0x17]
  | .rr_B => [0xCB, 0x18]
  | .rr_C => [0xCB, 0x19]
  | .rr_D => [0xCB, 0x1A]
  | .rr_E => [0xCB, 0x1B]
  | .rr_H => [0xCB, 0x1C]
  | .rr_L => [0xCB, 0x1D]
  | .rr_atHL => [0xCB, 0x1E]
  | .rr_A => [0xCB, 0x1F]
  | .sla_B => [0xCB, 0x20]
  | .sla_C => [0xCB, 0x21]
  | .sla_D => [0xCB, 0x22]
  | .sla_E => [0xCB, 0x23]
  | .sla_H => [0xCB, 0x24]
  | .sla_L => [0xCB, 0x25]
  | .sla_atHL => [0xCB, 0x26]
  | .sla_A => [0xCB, 0x27]
  | .sra_B => [0xCB, 0x28]
  | .sra_C => [0xCB, 0x29]
  | .sra_D => [0xCB, 0x2A]
  | .sra_E => [0xCB, 0x2B]
  | .sra_H => [0xCB, 0x2C]
  | .sra_L => [0xCB, 0x2D]
  | .sra_atHL => [0xCB, 0x2E]
  | .sra_A => [0xCB, 0x2F]
  | .swap_B => [0xCB, 0x30]
  | .swap_C => [0xCB, 0x31]
  | .swap_D => [0xCB, 0x32]
  | .swap_E => [0xCB, 0x33]
  | .swap_H => [0xCB, 0x34]
  | .swap_L => [0xCB, 0x35]
  | .swap_atHL => [0xCB, 0x36]
  | .swap_A => [0xCB, 0x37]
  | .srl_B => [0xCB, 0x38]
  | .srl_C => [0xCB, 0x39]
  | .srl_D => [0xCB, 0x3A]
  | .srl_E => [0xCB, 0x3B]
  | .srl_H => [0xCB, 0x3C]
  | .srl_L => [0xCB, 0x3D]
  | .srl_atHL => [0xCB, 0x3E]
  | .srl_A => [0xCB, 0x3F]
  | .bit_0_B => [0xCB, 0x40]
  | .bit_0_C => [0xCB, 0x41]
  | .bit_0_D => [0xCB, 0x42]
  | .bit_0_E => [0xCB, 0x43]
  | .bit_0_H => [0xCB, 0x44]
  | .bit_0_L => [0xCB, 0x45]
  | .bit_0_atHL => [0xCB, 0x46]
  | .bit_0_A => [0xCB, 0x47]
  | .bit_1_B => [0xCB, 0x48]
  | .bit_1_C => [0xCB, 0x49]
  | .bit_1_D => [0xCB, 0x4A]
  | .bit_1_E => [0xCB, 0x4B]
  | .bit_1_H => [0xCB, 0x4C]
  | .bit_1_L => [0xCB, 0x4D]
  | .bit_1_atHL => [0xCB, 0x4E]
  | .bit_1_A => [0xCB, 0x4F]
  | .bit_2_B => [0xCB, 0x50]
  | .bit_2_C => [0xCB, 0x51]
  | .bit_2_D => [0xCB, 0x52]
  | .bit_2_E => [0xCB, 0x53]
  | .bit_2_H => [0xCB, 0x54]
  | .bit_2_L => [0xCB, 0x55]
  | .bit_2_atHL => [0xCB, 0x56]
  | .bit_2_A => [0xCB, 0x57]
  | .bit_3_B => [0xCB, 0x58]
  | .bit_3_C => [0xCB, 0x59]
  | .bit_3_D => [0xCB, 0x5A]
  | .bit_3_E => [0xCB, 0x5B]
  | .bit_3_H => [0xCB, 0x5C]
  | .bit_3_L => [0xCB, 0x5D]
  | .bit_3_atHL => [0xCB, 0x5E]
  | .bit_3_A => [0xCB, 0x5F]
  | .bit_4_B => [0xCB, 0x60]
  | .bit_4_C => [0xCB, 0x61]
  | .bit_4_D => [0xCB, 0x62]
  | .bit_4_E => [0xCB, 0x63]
  | .bit_4_H => [0xCB, 0x64]
  | .bit_4_L => [0xCB, 0x65]
  | .bit_4_atHL => [0xCB, 0x66]
  | .bit_4_A => [0xCB, 0x67]
  | .bit_5_B => [0xCB, 0x68]
  | .bit_5_C => [0xCB, 0x69]
  | .bit_5_D => [0xCB, 0x6A]
  | .bit_5_E => [0xCB, 0x6B]
  | .bit_5_H => [0xCB, 0x6C]
  | .bit_5_L => [0xCB, 0x6D]
  | .bit_5_atHL => [0xCB, 0x6E]
  | .bit_5_A => [0xCB, 0x6F]
  | .bit_6_B => [0xCB, 0x70]
  | .bit_6_C => [0xCB, 0x71]
  | .bit_6_D => [0xCB, 0x72]
  | .bit_6_E => [0xCB, 0x73]
  | .bit_6_H => [0xCB, 0x74]
  | .bit_6_L => [0xCB, 0x75]
  | .bit_6_atHL => [0xCB, 0x76]
  | .bit_6_A => [0xCB, 0x77]
  | .bit_7_B => [0xCB, 0x78]
  | .bit_7_C => [0xCB, 0x79]
  | .bit_7_D => [0xCB, 0x7A]
  | .bit_7_E => [0xCB, 0x7B]
  | .bit_7_H => [0xCB, 0x7C]
  | .bit_7_L => [0xCB, 0x7D]
  | .bit_7_atHL => [0xCB, 0x7E]
  | .bit_7_A => [0xCB, 0x7F]
  | .res_0_B => [0xCB, 0x80]
  | .res_0_C => [0xCB, 0x81]
  | .res_0_D => [0xCB, 0x82]
  | .res_0_E => [0xCB, 0x83]
  | .res_0_H => [0xCB, 0x84]
  | .res_0_L => [0xCB, 0x85]
  | .res_0_atHL => [0xCB, 0x86]
  | .res_0_A => [0xCB, 0x87]
  | .res_1_B => [0xCB, 0x88]
  | .res_1_C => [0xCB, 0x89]
  | .res_1_D => [0xCB, 0x8A]
  | .res_1_E => [0xCB, 0x8B]
  | .res_1_H => [0xCB, 0x8C]
  | .res_1_L => [0xCB, 0x8D]
  | .res_1_atHL => [0xCB, 0x8E]
  | .res_1_A => [0xCB, 0x8F]
  | .res_2_B => [0xCB, 0x90]
  | .res_2_C => [0xCB, 0x91]
  | .res_2_D => [0xCB, 0x92]
  | .res_2_E => [0xCB, 0x93]
  | .res_2_H => [0xCB, 0x94]
  | .res_2_L => [0xCB, 0x95]
  | .res_2_atHL => [0xCB, 0x96]
  | .res_2_A => [0xCB, 0x97]
  | .res_3_B => [0xCB, 0x98]
  | .res_3_C => [0xCB, 0x99]
  | .res_3_D => [0xCB, 0x9A]
  | .res_3_E => [0xCB, 0x9B]
  | .res_3_H => [0xCB, 0x9C]
  | .res_3_L => [0xCB, 0x9D]
  | .res_3_atHL => [0xCB, 0x9E]
  | .res_3_A => [0xCB, 0x9F]
  | .res_4_B => [0xCB, 0xA0]
  | .res_4_C => [0xCB, 0xA1]
  | .res_4_D => [0xCB, 0xA2]
  | .res_4_E => [0xCB, 0xA3]
  | .res_4_H => [0xCB, 0xA4]
  | .res_4_L => [0xCB, 0xA5]
  | .res_4_atHL => [0xCB, 0xA6]
  | .res_4_A => [0xCB, 0xA7]
  | .res_5_B => [0xCB, 0xA8]
  | .res_5_C => [0xCB, 0xA9]
  | .res_5_D => [0xCB, 0xAA]
  | .res_5_E => [0xCB, 0xAB]
  | .res_5_H => [0xCB, 0xAC]
  | .res_5_L => [0xCB, 0xAD]
  | .res_5_atHL => [0xCB, 0xAE]
  | .res_5_A => [0xCB, 0xAF]
  | .res_6_B => [0xCB, 0xB0]
  | .res_6_C => [0xCB, 0xB1]
  | .res_6_D => [0xCB, 0xB2]
  | .res_6_E => [0xCB, 0xB3]
  | .res_6_H => [0xCB, 0xB4]
  | .res_6_L => [0xCB, 0xB5]
  | .res_6_atHL => [0xCB, 0xB6]
  | .res_6_A => [0xCB, 0xB7]
  | .res_7_B => [0xCB, 0xB8]
  | .res_7_C => [0xCB, 0xB9]
  | .res_7_D => [0xCB, 0xBA]
  | .res_7_E => [0xCB, 0xBB]
  | .res_7_H => [0xCB, 0xBC]
  | .res_7_L => [0xCB, 0xBD]
  | .res_7_atHL => [0xCB, 0xBE]
  | .res_7_A => [0xCB, 0xBF]
  | .set_0_B => [0xCB, 0xC0]
  | .set_0_C => [0xCB, 0xC1]
  | .set_0_D => [0xCB, 0xC2]
  | .set_0_E => [0xCB, 0xC3]
  | .set_0_H => [0xCB, 0xC4]
  | .set_0_L => [0xCB, 0xC5]
  | .set_0_atHL => [0xCB, 0xC6]
  | .set_0_A => [0xCB, 0xC7]
  | .set_1_B => [0xCB, 0xC8]
  | .set_1_C => [0xCB, 0xC9]
  | .set_1_D => [0xCB, 0xCA]
  | .set_1_E => [0xCB, 0xCB]
  | .set_1_H => [0xCB, 0xCC]
  | .set_1_L => [0xCB, 0xCD]
  | .set_1_atHL => [0xCB, 0xCE]
  | .set_1_A => [0xCB, 0xCF]
  | .set_2_B => [0xCB, 0xD0]
  | .set_2_C => [0xCB, 0xD1]
  | .set_2_D => [0xCB, 0xD2]
  | .set_2_E => [0xCB, 0xD3]
  | .set_2_H => [0xCB, 0xD4]
  | .set_2_L => [0xCB, 0xD5]
  | .set_2_atHL => [0xCB, 0xD6]
  | .set_2_A => [0xCB, 0xD7]
  | .set_3_B => [0xCB, 0xD8]
  | .set_3_C => [0xCB, 0xD9]
  | .set_3_D => [0xCB, 0xDA]
  | .set_3_E => [0xCB, 0xDB]
  | .set_3_H => [0xCB, 0xDC]
  | .set_3_L => [0xCB, 0xDD]
  | .set_3_atHL => [0xCB, 0xDE]
  | .set_3_A => [0xCB, 0xDF]
  | .set_4_B => [0xCB, 0xE0]
  | .set_4_C => [0xCB, 0xE1]
  | .set_4_D => [0xCB, 0xE2]
  | .set_4_E => [0xCB, 0xE3]
  | .set_4_H => [0xCB, 0xE4]
  | .set_4_L => [0xCB, 0xE5]
  | .set_4_atHL => [0xCB, 0xE6]
  | .set_4_A => [0xCB, 0xE7]
  | .set_5_B => [0xCB, 0xE8]
  | .set_5_C => [0xCB, 0xE9]
  | .set_5_D => [0xCB, 0xEA]
  | .set_5_E => [0xCB, 0xEB]
  | .set_5_H => [0xCB, 0xEC]
  | .set_5_L => [0xCB, 0xED]
  | .set_5_atHL => [0xCB, 0xEE]
  | .set_5_A => [0xCB, 0xEF]
  | .set_6_B => [0xCB, 0xF0]
  | .set_6_C => [0xCB, 0xF1]
  | .set_6_D => [0xCB, 0xF2]
  | .set_6_E => [0xCB, 0xF3]
  | .set_6_H => [0xCB, 0xF4]
  | .set_6_L => [0xCB, 0xF5]
  | .set_6_atHL => [0xCB, 0xF6]
  | .set_6_A => [0xCB, 0xF7]
  | .set_7_B => [0xCB, 0xF8]
  | .set_7_C => [0xCB, 0xF9]
  | .set_7_D => [0xCB, 0xFA]
  | .set_7_E => [0xCB, 0xFB]
  | .set_7_H => [0xCB, 0xFC]
  | .set_7_L => [0xCB, 0xFD]
  | .set_7_atHL => [0xCB, 0xFE]
  | .set_7_A => [0xCB, 0xFF]

/-- The length of an instruction in bytes (R110). -/
def Instr.length (i : Instr) : Nat := (encode i).length

/-! ## The host's table words -/

/-- The three bytes a table word stands for, first byte first, zero above the row's bits. A 16-bit row of
spec/opcode_table.json is a CB row, whose `match` is `(byte0 << 8) | byte1` (R116); a 16-bit word with 0xCB in bits 7..0
only is read first byte lowest. Every other word has its first byte in bits 7..0 (log entry 7). -/
def tableBytes (nbits w : Nat) : Byte × Byte × Byte :=
  let w := w % 2 ^ nbits
  let low := BitVec.ofNat 8 w
  let mid := BitVec.ofNat 8 (w / 0x100)
  let high := BitVec.ofNat 8 (w / 0x10000)
  if nbits = 16 ∧ mid = 0xCB then (mid, low, 0) else (low, mid, high)

/-- The instruction the decoder reads from a table word. -/
def decodeTableWord (nbits w : Nat) : Option Instr :=
  let (b0, b1, b2) := tableBytes nbits w
  some (decode b0 b1 b2)

end Sys2Proof
end

