-- ==== Sys2Proof/Machine/Cycles.lean ====
section
/-! DEFINITION. Cycle costs (30_encoding.md R118, R119, R121; 00_scope.md R15). They are architectural here, since they
drive the display controller (70_reset_and_hazards.md R393). -/

namespace Sys2Proof.Machine

/-- `HALT_IDLE_CYCLES` (D30). -/
def haltIdleCycles : Nat := 4

/-- `INT_SERVICE_CYCLES` (D30). -/
def intServiceCycles : Nat := 20

/-- The base costs of the primary opcodes, row by row (the first table of R119); 0 for an illegal slot and the prefix,
which have no cost of their own. -/
def primaryCycles (op : Byte) : Nat :=
  let row : List Nat :=
    match op.toNat / 16 with
    | 0 => [4, 12, 8, 8, 4, 4, 8, 4, 20, 8, 8, 8, 4, 4, 8, 4]
    | 1 => [4, 12, 8, 8, 4, 4, 8, 4, 12, 8, 8, 8, 4, 4, 8, 4]
    | 2 => [8, 12, 8, 8, 4, 4, 8, 4, 8, 8, 8, 8, 4, 4, 8, 4]
    | 3 => [8, 12, 8, 8, 12, 12, 12, 4, 8, 8, 8, 8, 4, 4, 8, 4]
    | 7 => [8, 8, 8, 8, 8, 8, 4, 8, 4, 4, 4, 4, 4, 4, 8, 4]
    | 12 => [8, 12, 12, 16, 12, 16, 8, 16, 8, 16, 12, 0, 12, 24, 8, 16]
    | 13 => [8, 12, 12, 0, 12, 16, 8, 16, 8, 16, 12, 0, 12, 0, 8, 16]
    | 14 => [12, 12, 8, 0, 0, 16, 8, 16, 16, 4, 16, 0, 0, 0, 8, 16]
    | 15 => [12, 12, 8, 4, 0, 16, 8, 16, 12, 8, 16, 4, 0, 0, 8, 16]
    | _ => [4, 4, 4, 4, 4, 4, 8, 4, 4, 4, 4, 4, 4, 4, 8, 4]
  row.getD (op.toNat % 16) 0

/-- The taken costs of the conditional opcodes (R119): JR cc, RET cc, JP cc and CALL cc. No other opcode has one. -/
def takenCycles (op : Byte) : Option Nat :=
  if op ∈ [0x20, 0x28, 0x30, 0x38] then some 12
  else if op ∈ [0xC0, 0xC8, 0xD0, 0xD8] then some 20
  else if op ∈ [0xC2, 0xCA, 0xD2, 0xDA] then some 16
  else if op ∈ [0xC4, 0xCC, 0xD4, 0xDC] then some 24
  else none

/-- The costs of the CB opcodes, the prefix counted (R121). -/
def cbCycles (op2 : Byte) : Nat :=
  if op2.toNat % 8 ≠ 6 then 8 else if op2.toNat / 64 = 1 then 12 else 16

/-- The cost returned for an executed instruction (R118). -/
def cost (i : Instr) (taken : Bool) : Nat :=
  match encode i with
  | [] => 0
  | op :: rest =>
    if op = 0xCB then cbCycles (rest.headD 0)
    else if taken then (takenCycles op).getD (primaryCycles op) else primaryCycles op

end Sys2Proof.Machine
end

