-- ==== Sys2Proof/Config.lean ====
section
/-! DEFINITION. The free values of the model: the open ports of 00_scope.md R10 and R11 (D14).
Each is an opaque constant, so no proof can see a value of it and every claim holds whatever it is. -/

namespace Sys2Proof

/-- `CTRL.get_value()` of an external controller (R11, U7: "a draw from CTRL on every read").
The arguments are the bytes written to 0xFF00 so far, newest first, and the index of the draw: see log entry 3. -/
opaque Config.ctrlDraw : List Byte → Nat → Byte

/-- `CART.read(addr)` of an external cartridge in the given hidden state (R10): see log entry 2. -/
opaque Config.cartRead : Nat → Word → Byte

/-- The hidden state of an external cartridge after `CART.write(addr, v)` (R10, R79): see log entry 2. -/
opaque Config.cartWrite : Nat → Word → Byte → Nat

end Sys2Proof
end

