-- ==== Sys2Proof/Machine/Memory.lean ====
section
/-! DEFINITION. Sparse byte storage in one canonical form: the plain storage MEM (10_state.md R46), the boot ROM
image (R48) and the image of a flat cartridge are each such a list. An unlisted address reads as 0x00: see log
entry 1. -/

namespace Sys2Proof.Machine

/-- Address and byte pairs, addresses strictly rising, no entry equal to `Memory.unlisted`. -/
abbrev Memory := List Host.Cell

/-- What an address with no entry reads as (DESIGN CHOICE, log entry 1: the spec leaves INIT_MEM, BOOT_ROM and the
cartridge's bytes open). -/
def Memory.unlisted : Byte := 0x00

/-- The byte at address `a`. -/
def Memory.read : Memory → Nat → Byte
  | [], _ => Memory.unlisted
  | (k, v) :: rest, a => if k = a then v else Memory.read rest a

/-- Put one cell in front, unless it holds what an unlisted address reads as. -/
def Memory.consCell (a : Nat) (v : Byte) (m : Memory) : Memory :=
  if v = Memory.unlisted then m else (a, v) :: m

/-- Store byte `v` at address `a`, keeping the canonical form. -/
def Memory.write : Memory → Nat → Byte → Memory
  | [], a, v => Memory.consCell a v []
  | (k, w) :: rest, a, v =>
    if k < a then (k, w) :: Memory.write rest a v
    else if k = a then Memory.consCell a v rest
    else Memory.consCell a v ((k, w) :: rest)

/-- The canonical form from address `low` on and below `bound`. -/
def Memory.canonical (bound : Nat) : Nat → Memory → Bool
  | _, [] => true
  | low, (a, v) :: rest =>
    decide (low ≤ a) && decide (a < bound) && decide (v ≠ Memory.unlisted) && Memory.canonical bound (a + 1) rest

/-- The canonical form of a whole 16-bit address space (20_memory.md R70). -/
def Memory.wf (m : Memory) : Bool := Memory.canonical 0x10000 0 m

/-- Store a list of bytes at rising addresses from `a` on. -/
def Memory.writeList (m : Memory) (a : Nat) : List Byte → Memory
  | [] => m
  | v :: rest => Memory.writeList (m.write a v) (a + 1) rest

end Sys2Proof.Machine
end

