-- ==== Sys2Proof/Machine/State.lean ====
section
/-! DEFINITION. The state of the tvp CORE, as plain data: every piece of state 10_state.md gives the machine
(R30 to R60), the hidden state of the two ports (00_scope.md R10, R11) and the record of the video sink's events
(R12). INVENTORY.md lists each field with its rule and its reset value. -/

namespace Sys2Proof.Machine

/-- The processor's registers (R30, R33, R37). AF, BC, DE and HL are views (R32), in Machine/Ops.lean. -/
structure Regs where
  a : Byte
  /-- F, with ZERO in bit 7, SUBTRACT in 6, HALFCARRY in 5 and CARRY in 4 (R34). Bits 3..0 are always 0 (R35). -/
  f : Byte
  b : Byte
  c : Byte
  d : Byte
  e : Byte
  h : Byte
  l : Byte
  sp : Word
  pc : Word
  deriving DecidableEq, Repr

/-- The causes of a Fatal fault (60_exceptions.md R303): one only. -/
inductive FaultCause where
  | unimplementedOpcode
  deriving DecidableEq, Repr

/-- What the fault mark records (R303). -/
structure FaultInfo where
  cause : FaultCause
  opcode : Byte
  prefixed : Bool
  address : Word
  deriving DecidableEq, Repr

/-- The display controller's modes (R51, R57). -/
inductive Mode where
  | oam
  | vram
  | hblank
  | vblank
  deriving DecidableEq, Repr

/-- 144 lines of 160 two-bit values (R58, R59). -/
abbrev Frame := Vector (Vector Shade 160) 144

/-- A frame of zeros, the reset contents of FB and BGI (D47). -/
def Frame.blank : Frame := Vector.replicate 144 (Vector.replicate 160 0)

/-- The display controller's registers, timing state and buffers (R49 to R59). The DMA register holds no value. -/
structure Display where
  lcdc : Byte
  stat : Byte
  scy : Byte
  scx : Byte
  ly : Byte
  lyc : Byte
  bgp : Byte
  obp0 : Byte
  obp1 : Byte
  wy : Byte
  wx : Byte
  mode : Mode
  /-- The cycle accumulator (R57). -/
  acc : Nat
  /-- FB, the frame buffer of shades (R58). -/
  fb : Frame
  /-- BGI, the raw background colour index of each pixel (R59). -/
  bgi : Frame
  deriving DecidableEq, Repr

/-- The cartridge port CART (00_scope.md R10): a parameter of the model, carried in the state so that a claim about
every state is a claim about every cartridge (log entry 2). -/
inductive Cartridge where
  /-- A flat ROM whose bytes are `image`; `CART.write` changes nothing. -/
  | flat (image : Memory)
  /-- Any other cartridge, in the given hidden state: its answers are the free values of Config. -/
  | external (hidden : Nat)
  deriving DecidableEq, Repr

/-- What answers `CTRL.get_value()` (00_scope.md R11). -/
inductive ControllerSource where
  /-- A controller that gives the same byte on every read: a premise a claim may name. -/
  | steady (value : Byte)
  /-- Any controller: each read is a free draw of Config. -/
  | external
  deriving DecidableEq, Repr

/-- The controller port CTRL (00_scope.md R11; log entry 3). -/
structure Controller where
  source : ControllerSource
  /-- The bytes `CTRL.set_value` was given, newest first. -/
  written : List Byte
  /-- How many times `CTRL.tick()` was called. -/
  ticks : Nat
  /-- The index of the next draw: the MODEL'S OWN counter, so that no two reads share a draw. -/
  draws : Nat
  deriving DecidableEq, Repr

/-- The video sink's record (00_scope.md R12): the `paint(FB)` events so far and the last one's frame. The core never
reads it (log entry 4). -/
structure VideoSink where
  paints : Nat
  lastFrame : Option Frame
  deriving DecidableEq, Repr

/-- The whole machine: one record (00_scope.md R9). -/
structure State where
  regs : Regs
  /-- IME, the interrupts-enabled flag (R38). -/
  ime : Bool
  /-- IE, the interrupt-enable register at 0xFFFF (R41). -/
  ie : Byte
  /-- IF, the interrupt-flag register at 0xFF0F (R42). -/
  ifr : Byte
  /-- halted (R43). -/
  halted : Bool
  /-- branch_taken (R44). -/
  branchTaken : Bool
  /-- The fault mark (R45). -/
  fault : Option FaultInfo
  /-- MEM, the bus's plain storage, with the boot-disable latch at 0xFF50 (R46, R47). -/
  mem : Memory
  /-- BOOT_ROM (R48): a parameter, never written. -/
  bootRom : Memory
  cart : Cartridge
  ctrl : Controller
  lcd : Display
  sink : VideoSink
  deriving DecidableEq, Repr

/-- Why a step stops with a host fault: nothing does, so the type is empty. The spec's one exception, Fatal, is a NEXT
state that carries the fault mark (R45, R303, R370), and every later step leaves that state unchanged (R304): log
entry 5. Safe: no run of the model ends early. -/
inductive Fault where
  deriving DecidableEq, Repr

/-- Why an instruction has no meaning. -/
inductive Refusal where
  /-- Raised only by an arm of Machine/Dispatch.lean whose instruction has no meaning yet; safe, since no claim about a
  next state can rest on it. In this model no arm raises it. -/
  | notModelled (mnemonic : String)
  deriving DecidableEq, Repr

/-- What a meaning answers. -/
abbrev Result := Host.Outcome State Fault Refusal

/-- The open parameters the host supplies at construction (00_scope.md R16, 60_exceptions.md R375). -/
structure ResetParams where
  /-- RESET_REGS: the reset values of A, F, B, C, D, E, H, L and SP (D42); its `pc` is not used. -/
  regs : Regs
  /-- INIT_MEM (D45). -/
  initMem : Memory
  /-- BOOT_ROM (D46). -/
  bootRom : Memory
  cart : Cartridge
  source : ControllerSource
  deriving DecidableEq, Repr

/-- The display controller's reset state (R49, R57 to R59; D44, D47). -/
def Display.reset : Display where
  lcdc := 0x00
  stat := 0x02
  scy := 0x00
  scx := 0x00
  ly := 0x00
  lyc := 0x00
  bgp := 0x00
  obp0 := 0x00
  obp1 := 0x00
  wy := 0x00
  wx := 0x00
  mode := .oam
  acc := 0
  fb := Frame.blank
  bgi := Frame.blank

/-- Reset (10_state.md R60, 70_reset_and_hazards.md R380), for every choice of the open parameters. -/
def State.resetWith (p : ResetParams) : State where
  regs := { p.regs with f := p.regs.f &&& 0xF0, pc := 0x0000 }
  ime := false
  ie := 0x00
  ifr := 0x00
  halted := false
  branchTaken := false
  fault := none
  mem := p.initMem.write 0xFF50 0x00
  bootRom := p.bootRom
  cart := p.cart
  ctrl := { source := p.source, written := [], ticks := 0, draws := 0 }
  lcd := Display.reset
  sink := { paints := 0, lastFrame := none }

/-- The parameters of `State.reset`: registers zero, empty images, nothing known of the ports (DESIGN CHOICE, log
entries 1, 2, 3 and 6). -/
def ResetParams.zero : ResetParams where
  regs := { a := 0, f := 0, b := 0, c := 0, d := 0, e := 0, h := 0, l := 0, sp := 0, pc := 0 }
  initMem := []
  bootRom := []
  cart := .external 0
  source := .external

/-- The machine right after reset. -/
def State.reset : State := State.resetWith ResetParams.zero

end Sys2Proof.Machine
end

