-- ==== Sys2Proof/Machine/Ops.lean ====
section
/-! DEFINITION. The named operations over registers, the bus and the stack; taking an interrupt, the return from one,
and raising Fatal. Everything an instruction reads or writes goes through these. -/

namespace Sys2Proof.Machine

/-! ## Registers -/

/-- `r8[n]` (00_scope.md R19). -/
def Regs.get8 (r : Regs) : Reg8 → Byte
  | .b => r.b
  | .c => r.c
  | .d => r.d
  | .e => r.e
  | .h => r.h
  | .l => r.l
  | .a => r.a

/-- `r8[n] <- v` (R19). -/
def Regs.set8 (r : Regs) (n : Reg8) (v : Byte) : Regs :=
  match n with
  | .b => { r with b := v }
  | .c => { r with c := v }
  | .d => { r with d := v }
  | .e => { r with e := v }
  | .h => { r with h := v }
  | .l => { r with l := v }
  | .a => { r with a := v }

/-- A read of F: bits 3..0 are 0 (10_state.md R35; log entry 10). -/
def Regs.flagByte (r : Regs) : Byte := r.f &&& 0xF0

/-- A write of F stores `v & 0xF0` (R35). -/
def Regs.setFlagByte (r : Regs) (v : Byte) : Regs := { r with f := v &&& 0xF0 }

/-- `r16[p]` for the `rp` column (R19, R32, R33). -/
def Regs.get16 (r : Regs) : Pair → Word
  | .bc => pack r.b r.c
  | .de => pack r.d r.e
  | .hl => pack r.h r.l
  | .sp => r.sp

/-- `r16[p] <- v` for the `rp` column (R19, R32, R33). -/
def Regs.set16 (r : Regs) (p : Pair) (v : Word) : Regs :=
  match p with
  | .bc => { r with b := hi v, c := lo v }
  | .de => { r with d := hi v, e := lo v }
  | .hl => { r with h := hi v, l := lo v }
  | .sp => { r with sp := v }

/-- `r16[p]` for the `rp2` column: AF is A:F (R32). -/
def Regs.getStack (r : Regs) : StackPair → Word
  | .bc => r.get16 .bc
  | .de => r.get16 .de
  | .hl => r.get16 .hl
  | .af => pack r.a r.flagByte

/-- `r16[p] <- v` for the `rp2` column; a write to AF is subject to R35 (R32). -/
def Regs.setStack (r : Regs) (p : StackPair) (v : Word) : Regs :=
  match p with
  | .bc => r.set16 .bc v
  | .de => r.set16 .de v
  | .hl => r.set16 .hl v
  | .af => Regs.setFlagByte { r with a := hi v } (lo v)

def State.reg8 (s : State) (n : Reg8) : Byte := s.regs.get8 n

def State.setReg8 (s : State) (n : Reg8) (v : Byte) : State := { s with regs := s.regs.set8 n v }

def State.reg16 (s : State) (p : Pair) : Word := s.regs.get16 p

def State.setReg16 (s : State) (p : Pair) (v : Word) : State := { s with regs := s.regs.set16 p v }

def State.setPc (s : State) (v : Word) : State := { s with regs := { s.regs with pc := v } }

def State.setSp (s : State) (v : Word) : State := { s with regs := { s.regs with sp := v } }

/-! ## The ports -/

/-- `CART.read(addr)` (00_scope.md R10). -/
def Cartridge.readByte (c : Cartridge) (a : Word) : Byte :=
  match c with
  | .flat image => image.read a.toNat
  | .external hidden => Config.cartRead hidden a

/-- `CART.write(addr, v)` (R10): a flat ROM ignores it, any other cartridge may change its hidden state (R79). -/
def Cartridge.writeByte (c : Cartridge) (a : Word) (v : Byte) : Cartridge :=
  match c with
  | .flat image => .flat image
  | .external hidden => .external (Config.cartWrite hidden a v)

/-- `CTRL.get_value()` (R11). -/
def Controller.getValue (c : Controller) : Byte :=
  match c.source with
  | .steady value => value
  | .external => Config.ctrlDraw c.written c.draws

/-- `CTRL.set_value(v)` (R11). -/
def Controller.setValue (c : Controller) (v : Byte) : Controller := { c with written := v :: c.written }

/-- `CTRL.tick()` (R11): the reads that follow are draws of their own. -/
def Controller.tick (c : Controller) : Controller := { c with ticks := c.ticks + 1, draws := c.draws + 1 }

/-- The model's own step from an instruction's fetch to its execution, so that their reads do not share a draw
(log entry 3). -/
def Controller.nextDraw (c : Controller) : Controller := { c with draws := c.draws + 1 }

/-! ## The bus decoder -/

/-- The entries of the decode table (20_memory.md R72), in its order. -/
inductive Region where
  | intEnable | highRam | bootLatch | display | audio | intFlag | timer | serial | controller | unusable | oam | echo
  | workRam | cartRam | videoRam | cartRom | bootWindow | unlistedIo
  deriving DecidableEq, Repr

/-- Which entry of R72 the address with this number falls under; the pseudocode's order (R74). -/
def regionOfNat (n : Nat) : Region :=
  if n = 0xFFFF then .intEnable
  else if 0xFF80 ≤ n ∧ n ≤ 0xFFFE then .highRam
  else if n = 0xFF50 then .bootLatch
  else if 0xFF40 ≤ n ∧ n ≤ 0xFF4B then .display
  else if 0xFF10 ≤ n ∧ n ≤ 0xFF3F then .audio
  else if n = 0xFF0F then .intFlag
  else if 0xFF04 ≤ n ∧ n ≤ 0xFF07 then .timer
  else if 0xFF01 ≤ n ∧ n ≤ 0xFF02 then .serial
  else if n = 0xFF00 then .controller
  else if 0xFEA0 ≤ n ∧ n ≤ 0xFEFF then .unusable
  else if 0xFE00 ≤ n ∧ n ≤ 0xFE9F then .oam
  else if 0xE000 ≤ n ∧ n ≤ 0xFDFF then .echo
  else if 0xC000 ≤ n ∧ n ≤ 0xDFFF then .workRam
  else if 0xA000 ≤ n ∧ n ≤ 0xBFFF then .cartRam
  else if 0x8000 ≤ n ∧ n ≤ 0x9FFF then .videoRam
  else if 0x0100 ≤ n ∧ n ≤ 0x7FFF then .cartRom
  else if n ≤ 0x00FF then .bootWindow
  else .unlistedIo

/-- Which entry of R72 an address falls under. -/
def regionOf (a : Word) : Region := regionOfNat a.toNat

/-- The cell of MEM that a plain-storage region reads and writes: the address itself, or for echo RAM the address
0x2000 below (R46, R75). No other region has one. -/
def plainCell (a : Word) : Option Nat :=
  match regionOf a with
  | .highRam | .bootLatch | .audio | .timer | .serial | .oam | .workRam | .videoRam | .unlistedIo => some a.toNat
  | .echo => some (a.toNat - 0x2000)
  | .intEnable | .display | .intFlag | .controller | .unusable | .cartRam | .cartRom | .bootWindow => none

/-- What reads of the cartridge-RAM range and of the DMA register return (00_scope.md R15; D9, D10). -/
def sentinel : Byte := 0xFF

/-- The boot-disable latch is set when MEM[0xFF50] is not 0x00 (10_state.md R47; D7). -/
def State.bootDisabled (s : State) : Bool := s.mem.read 0xFF50 != 0x00

/-- A display register's value on a bus read (20_memory.md R82). -/
def Display.readReg (d : Display) (a : Word) : Byte :=
  if a = 0xFF40 then d.lcdc
  else if a = 0xFF41 then d.stat
  else if a = 0xFF42 then d.scy
  else if a = 0xFF43 then d.scx
  else if a = 0xFF44 then d.ly
  else if a = 0xFF45 then d.lyc
  else if a = 0xFF46 then sentinel
  else if a = 0xFF47 then d.bgp
  else if a = 0xFF48 then d.obp0
  else if a = 0xFF49 then d.obp1
  else if a = 0xFF4A then d.wy
  else if a = 0xFF4B then d.wx
  else sentinel

/-- A bus write of a display register, but for the DMA register (R82): STAT keeps bits 2..0 (D13), LY ignores it. -/
def Display.writeReg (d : Display) (a : Word) (v : Byte) : Display :=
  if a = 0xFF40 then { d with lcdc := v }
  else if a = 0xFF41 then { d with stat := (v &&& 0xF8) ||| (d.stat &&& 0x07) }
  else if a = 0xFF42 then { d with scy := v }
  else if a = 0xFF43 then { d with scx := v }
  else if a = 0xFF45 then { d with lyc := v }
  else if a = 0xFF47 then { d with bgp := v }
  else if a = 0xFF48 then { d with obp0 := v }
  else if a = 0xFF49 then { d with obp1 := v }
  else if a = 0xFF4A then { d with wy := v }
  else if a = 0xFF4B then { d with wx := v }
  else d

/-- `bus_read(a)` (R71, R72). It changes nothing. -/
def State.busRead (s : State) (a : Word) : Byte :=
  match regionOf a with
  | .intEnable => s.ie
  | .intFlag => s.ifr
  | .display => s.lcd.readReg a
  | .controller => s.ctrl.getValue
  | .unusable => 0xFF
  | .cartRam => sentinel
  | .cartRom => s.cart.readByte a
  | .bootWindow => if s.bootDisabled then s.cart.readByte a else s.bootRom.read a.toNat
  | .echo => s.mem.read (a.toNat - 0x2000)
  | .highRam | .bootLatch | .audio | .timer | .serial | .oam | .workRam | .videoRam | .unlistedIo =>
    s.mem.read a.toNat

/-- `MEM[a] <- v`: one cell of plain storage. -/
def State.setCell (s : State) (a : Nat) (v : Byte) : State := { s with mem := s.mem.write a v }

/-- The first `n` bytes of the OAM copy from the page at `src` (R90), ascending; each source byte is read on the bus. -/
def dmaBytes (src : Word) : Nat → State → State
  | 0, s => s
  | n + 1, s =>
    let s := dmaBytes src n s
    s.setCell (0xFE00 + n) (s.busRead (src + BitVec.ofNat 16 n))

/-- `dma_copy(v)` (R90): 160 bytes from `v * 0x100` into OAM. -/
def State.dmaCopy (s : State) (v : Byte) : State := dmaBytes (pack v 0x00) 160 s

/-- `bus_write(a, v)` (R72, R73). -/
def State.busWrite (s : State) (a : Word) (v : Byte) : State :=
  match regionOf a with
  | .intEnable => { s with ie := v }
  | .intFlag => { s with ifr := v }
  | .display => if a = 0xFF46 then s.dmaCopy v else { s with lcd := s.lcd.writeReg a v }
  | .controller => { s with ctrl := s.ctrl.setValue v }
  | .unusable => s
  | .cartRam => s
  | .cartRom => { s with cart := s.cart.writeByte a v }
  | .bootWindow => if s.bootDisabled then { s with cart := s.cart.writeByte a v } else s
  | .echo => s.setCell (a.toNat - 0x2000) v
  | .highRam | .bootLatch | .audio | .timer | .serial | .oam | .workRam | .videoRam | .unlistedIo =>
    s.setCell a.toNat v

/-- `MemRead16(a)`: little-endian, the second address wrapping (00_scope.md R20, 20_memory.md R86). -/
def State.busRead16 (s : State) (a : Word) : Word := pack (s.busRead (a + 1)) (s.busRead a)

/-- A 16-bit store, low byte first (40_load.md R164). -/
def State.busWrite16 (s : State) (a v : Word) : State := (s.busWrite a (lo v)).busWrite (a + 1) (hi v)

/-! ## The stack -/

/-- `push16(v)` (40_load.md R160): the high byte at SP-1, then the low byte at SP-2. -/
def State.push16 (s : State) (v : Word) : State :=
  let s := s.setSp (s.regs.sp - 1)
  let s := s.busWrite s.regs.sp (hi v)
  let s := s.setSp (s.regs.sp - 1)
  s.busWrite s.regs.sp (lo v)

/-- The value `pop16()` returns (R161). -/
def State.popValue (s : State) : Word := pack (s.busRead (s.regs.sp + 1)) (s.busRead s.regs.sp)

/-- The stack pointer after `pop16()` (R161). -/
def State.popSp (s : State) : State := s.setSp (s.regs.sp + 2)

/-! ## Interrupts and the fault -/

/-- The interrupt kinds (10_state.md R40). -/
inductive IntKind where
  | vblank | lcdStat | timer | serial | joypad
  deriving DecidableEq, Repr

/-- A kind's number: its bit in IE and IF (R40). -/
def IntKind.number : IntKind → Nat
  | .vblank => 0
  | .lcdStat => 1
  | .timer => 2
  | .serial => 3
  | .joypad => 4

/-- A kind's vector, `0x0040 + 8*k` (R40; D29). -/
def IntKind.vector (k : IntKind) : Word := 0x0040 + 8 * BitVec.ofNat 16 k.number

/-- `request(k)` sets bit k of IF (00_scope.md R24). -/
def State.request (s : State) (k : IntKind) : State := { s with ifr := s.ifr ||| bitMask k.number }

/-- The pending and enabled kinds, `IE & IF & 0x1F` (60_exceptions.md R300, R310). -/
def State.pending (s : State) : Byte := s.ie &&& s.ifr &&& 0x1F

/-- The lowest set bit of `pend`, as a kind (R310). -/
def selectKind (pend : Byte) : Option IntKind :=
  if bit pend 0 then some .vblank
  else if bit pend 1 then some .lcdStat
  else if bit pend 2 then some .timer
  else if bit pend 3 then some .serial
  else if bit pend 4 then some .joypad
  else none

/-- TAKING AN INTERRUPT: `service(k)` (60_exceptions.md R312). IME is cleared, the request is acknowledged, PC is pushed
and PC goes to the vector; nothing else is saved. -/
def State.service (s : State) (k : IntKind) : State :=
  let s := { s with ime := false, ifr := s.ifr &&& ~~~(bitMask k.number) }
  let s := s.push16 s.regs.pc
  s.setPc k.vector

/-- THE RETURN FROM ONE (44_control.md R259, 60_exceptions.md R316): PC is popped and IME set; nothing else is
restored. -/
def State.returnFromInterrupt (s : State) : State :=
  let target := s.popValue
  { s.popSp.setPc target with ime := true }

/-- `raise Fatal(UnimplementedOpcode)` after the opcode byte has been fetched (00_scope.md R23, 60_exceptions.md
R303). -/
def State.raiseFatal (s : State) (opcode : Byte) : State :=
  { s with
    fault := some { cause := .unimplementedOpcode, opcode := opcode, prefixed := false, address := s.regs.pc - 1 } }

end Sys2Proof.Machine
end

