-- ==== Sys2Proof/Machine/Flags.lean ====
section
/-! DEFINITION. The flags (10_state.md R34) and every flag computation of the spec: the 8-bit adder and subtractor
(41_alu8.md R181, R182), INC and DEC (R191, R193), DAA (R195), the 16-bit adders (42_alu16.md R210, R211) and the
rotates and shifts (43_rotate_bit.md R225 to R237). -/

namespace Sys2Proof.Machine

/-- F with the four flags at their places (R34) and bits 3..0 zero (R35). -/
def packFlags (z n h c : Bool) : Byte :=
  (if z then 0x80 else 0x00) ||| (if n then 0x40 else 0x00) ||| (if h then 0x20 else 0x00) ||| (if c then 0x10 else 0x00)

def State.flagZ (s : State) : Bool := bit s.regs.f 7
def State.flagN (s : State) : Bool := bit s.regs.f 6
def State.flagH (s : State) : Bool := bit s.regs.f 5
def State.flagC (s : State) : Bool := bit s.regs.f 4

/-- Write all four flags. -/
def State.setFlags (s : State) (z n h c : Bool) : State :=
  { s with regs := s.regs.setFlagByte (packFlags z n h c) }

/-- `cond(cc)` (00_scope.md R29). -/
def State.cond (s : State) : Cond → Bool
  | .nz => !s.flagZ
  | .z => s.flagZ
  | .nc => !s.flagC
  | .c => s.flagC

/-- A result byte with the four flags it sets. -/
structure AluOut where
  res : Byte
  z : Bool
  n : Bool
  h : Bool
  c : Bool
  deriving DecidableEq, Repr

/-- `add8(a, b, cin)` (R181): the exact sum, then the reduction. -/
def add8 (a b : Byte) (cin : Bool) : AluOut :=
  let sum := a.toNat + b.toNat + cin.toNat
  let res := BitVec.ofNat 8 sum
  { res := res
    z := res == 0
    n := false
    h := decide ((a &&& 0x0F).toNat + (b &&& 0x0F).toNat + cin.toNat > 0x0F)
    c := decide (sum > 0xFF) }

/-- `sub8(a, b, cin)` (R182): the exact difference, then the reduction; H and C are borrows. -/
def sub8 (a b : Byte) (cin : Bool) : AluOut :=
  let diff : Int := (a.toNat : Int) - (b.toNat : Int) - (cin.toNat : Int)
  let res := BitVec.ofInt 8 diff
  { res := res
    z := res == 0
    n := true
    h := decide ((a &&& 0x0F).toNat < (b &&& 0x0F).toNat + cin.toNat)
    c := decide (a.toNat < b.toNat + cin.toNat) }

/-- INC (R191, R192): C is the old carry, unchanged. -/
def inc8 (v : Byte) (c : Bool) : AluOut :=
  let res := v + 1
  { res := res, z := res == 0, n := false, h := res &&& 0x0F == 0x00, c := c }

/-- DEC (R193, R194): C is the old carry, unchanged. -/
def dec8 (v : Byte) (c : Bool) : AluOut :=
  let res := v - 1
  { res := res, z := res == 0, n := true, h := res &&& 0x0F == 0x0F, c := c }

/-- AND (R187). -/
def and8 (a b : Byte) : AluOut :=
  let res := a &&& b
  { res := res, z := res == 0, n := false, h := true, c := false }

/-- XOR (R188). -/
def xor8 (a b : Byte) : AluOut :=
  let res := a ^^^ b
  { res := res, z := res == 0, n := false, h := false, c := false }

/-- OR (R189). -/
def or8 (a b : Byte) : AluOut :=
  let res := a ||| b
  { res := res, z := res == 0, n := false, h := false, c := false }

/-- DAA (R195), after an addition: both tests use the value before the adjustment. -/
def daaAfterAdd (a : Byte) (h c : Bool) : AluOut :=
  let low := h || decide ((a &&& 0x0F).toNat > 0x09)
  let high := c || decide (a.toNat > 0x99)
  let res := a + ((if low then 0x06 else 0x00) ||| (if high then 0x60 else 0x00))
  { res := res, z := res == 0, n := false, h := false, c := high }

/-- DAA (R195), after a subtraction: C is unchanged. -/
def daaAfterSub (a : Byte) (h c : Bool) : AluOut :=
  let res := a - ((if h then 0x06 else 0x00) ||| (if c then 0x60 else 0x00))
  { res := res, z := res == 0, n := true, h := false, c := c }

/-- DAA (R195). -/
def daa8 (a : Byte) (n h c : Bool) : AluOut := if n then daaAfterSub a h c else daaAfterAdd a h c

/-- `add_sp_e8(sp, b)` (R210): H and C are those of the unsigned low-byte add. -/
def addSpE8 (sp : Word) (b : Byte) : Word × Bool × Bool :=
  (sp + sext16 b,
   decide ((sp &&& 0x000F).toNat + (b &&& 0x0F).toNat > 0x0F),
   decide ((sp &&& 0x00FF).toNat + b.toNat > 0x00FF))

/-- The sum of ADD HL,rr with its H and C (R211). -/
def addHl16 (a b : Word) : Word × Bool × Bool :=
  let sum := a.toNat + b.toNat
  (BitVec.ofNat 16 sum,
   decide ((a &&& 0x0FFF).toNat + (b &&& 0x0FFF).toNat > 0x0FFF),
   decide (sum > 0xFFFF))

/-- A carry as a byte, 0 or 1. -/
def carryByte (c : Bool) : Byte := if c then 1 else 0

/-- RLC (R230, R225): the result and the bit shifted out. -/
def rlc8 (v : Byte) : Byte × Bool := ((v <<< 1) ||| carryByte (bit v 7), bit v 7)

/-- RRC (R231, R226). -/
def rrc8 (v : Byte) : Byte × Bool := ((v >>> 1) ||| (carryByte (bit v 0) <<< 7), bit v 0)

/-- RL (R232, R227): through the carry flag. -/
def rl8 (v : Byte) (cin : Bool) : Byte × Bool := ((v <<< 1) ||| carryByte cin, bit v 7)

/-- RR (R233, R228): through the carry flag. -/
def rr8 (v : Byte) (cin : Bool) : Byte × Bool := ((v >>> 1) ||| (carryByte cin <<< 7), bit v 0)

/-- SLA (R234). -/
def sla8 (v : Byte) : Byte × Bool := (v <<< 1, bit v 7)

/-- SRA (R235): bit 7 is kept. -/
def sra8 (v : Byte) : Byte × Bool := ((v >>> 1) ||| (v &&& 0x80), bit v 0)

/-- SWAP (R236): no bit is shifted out, so C is 0 (D23). -/
def swap8 (v : Byte) : Byte × Bool := ((v <<< 4) ||| (v >>> 4), false)

/-- SRL (R237). -/
def srl8 (v : Byte) : Byte × Bool := (v >>> 1, bit v 0)

end Sys2Proof.Machine
end

