-- ==== Sys2Proof/Machine/Operands.lean ====
section
/-! DEFINITION. The operand forms: r8 codes (30_encoding.md R114), the high page (R115), and the shared shapes
"A with a source" (41_alu8.md R180) and "read, compute, write back" (43_rotate_bit.md R229). -/

namespace Sys2Proof.Machine

/-- `read_r8(c)` (R114). -/
def State.readOperand (s : State) : Operand8 → Byte
  | .reg n => s.reg8 n
  | .atHL => s.busRead (s.reg16 .hl)

/-- `write_r8(c, v)` (R114). -/
def State.writeOperand (s : State) (o : Operand8) (v : Byte) : State :=
  match o with
  | .reg n => s.setReg8 n v
  | .atHL => s.busWrite (s.reg16 .hl) v

/-- The high-page address `0xFF00 + n` (R115, 40_load.md R151). -/
def highPage (n : Byte) : Word := 0xFF00 + zext16 n

/-- Store an ALU result in A and write its flags. -/
def State.setAccumulator (s : State) (o : AluOut) : State := (s.setReg8 .a o.res).setFlags o.z o.n o.h o.c

/-- Write back a result byte, then its flags. -/
def State.writeBack (s : State) (dst : Operand8) (o : AluOut) : State :=
  (s.writeOperand dst o.res).setFlags o.z o.n o.h o.c

/-- What a rotate or shift sets: Z from the result, N and H 0, C the bit shifted out (R230 to R237). -/
def rotateOut (r : Byte × Bool) : AluOut := { res := r.1, z := r.1 == 0, n := false, h := false, c := r.2 }

/-- What an accumulator rotate sets: Z is forced to 0 (R225 to R228). -/
def rotateAOut (r : Byte × Bool) : AluOut := { res := r.1, z := false, n := false, h := false, c := r.2 }

end Sys2Proof.Machine
end

