-- ==== Sys2Proof/Machine/Alu16.lean ====
section
/-! DEFINITION. The 16-bit arithmetic instructions (42_alu16.md R211 to R214). -/

namespace Sys2Proof.Machine

/-! ## The shared operations -/

/-- ADD HL,rr (R211): Z is forced to 0 (90_conflicts.md C2). -/
def addHL (p : Pair) (s : State) : State :=
  let (res, h, c) := addHl16 (s.reg16 .hl) (s.reg16 p)
  (s.setReg16 .hl res).setFlags false false h c

/-- INC rr (R212): no flag is written. -/
def incPair (p : Pair) (s : State) : State := s.setReg16 p (s.reg16 p + 1)

/-- DEC rr (R213): no flag is written. -/
def decPair (p : Pair) (s : State) : State := s.setReg16 p (s.reg16 p - 1)

/-- ADD SP,e8 (R214). -/
def addSp (b : Byte) (s : State) : State :=
  let (res, h, c) := addSpE8 s.regs.sp b
  (s.setSp res).setFlags false false h c

/-! ## The instructions, one definition each -/

/-- INC BC (R212). -/
def execInc_BC (s : State) : Result := .next (incPair .bc s)

/-- ADD HL,BC (R211). -/
def execAdd_HL_BC (s : State) : Result := .next (addHL .bc s)

/-- DEC BC (R213). -/
def execDec_BC (s : State) : Result := .next (decPair .bc s)

/-- INC DE (R212). -/
def execInc_DE (s : State) : Result := .next (incPair .de s)

/-- ADD HL,DE (R211). -/
def execAdd_HL_DE (s : State) : Result := .next (addHL .de s)

/-- DEC DE (R213). -/
def execDec_DE (s : State) : Result := .next (decPair .de s)

/-- INC HL (R212). -/
def execInc_HL (s : State) : Result := .next (incPair .hl s)

/-- ADD HL,HL (R211). -/
def execAdd_HL_HL (s : State) : Result := .next (addHL .hl s)

/-- DEC HL (R213). -/
def execDec_HL (s : State) : Result := .next (decPair .hl s)

/-- INC SP (R212). -/
def execInc_SP (s : State) : Result := .next (incPair .sp s)

/-- ADD HL,SP (R211). -/
def execAdd_HL_SP (s : State) : Result := .next (addHL .sp s)

/-- DEC SP (R213). -/
def execDec_SP (s : State) : Result := .next (decPair .sp s)

/-- ADD SP,e8 (R214). -/
def execAdd_SP_e8 (e8 : Byte) (s : State) : Result := .next (addSp e8 s)

end Sys2Proof.Machine
end

