-- ==== Sys2Proof/Machine/Alu8.lean ====
section
/-! DEFINITION. The 8-bit arithmetic and logic instructions (41_alu8.md R183 to R198). -/

namespace Sys2Proof.Machine

/-! ## The shared operations -/

/-- ADD A,src (R183). -/
def addToA (v : Byte) (s : State) : State := s.setAccumulator (add8 (s.reg8 .a) v false)

/-- ADC A,src (R184). -/
def adcToA (v : Byte) (s : State) : State := s.setAccumulator (add8 (s.reg8 .a) v s.flagC)

/-- SUB src (R185). -/
def subToA (v : Byte) (s : State) : State := s.setAccumulator (sub8 (s.reg8 .a) v false)

/-- SBC A,src (R186). -/
def sbcToA (v : Byte) (s : State) : State := s.setAccumulator (sub8 (s.reg8 .a) v s.flagC)

/-- AND src (R187). -/
def andToA (v : Byte) (s : State) : State := s.setAccumulator (and8 (s.reg8 .a) v)

/-- XOR src (R188). -/
def xorToA (v : Byte) (s : State) : State := s.setAccumulator (xor8 (s.reg8 .a) v)

/-- OR src (R189). -/
def orToA (v : Byte) (s : State) : State := s.setAccumulator (or8 (s.reg8 .a) v)

/-- CP src (R190): the flags of SUB, and A is not written. -/
def cpToA (v : Byte) (s : State) : State :=
  let o := sub8 (s.reg8 .a) v false
  s.setFlags o.z o.n o.h o.c

/-- INC r and INC (HL) (R191, R192). -/
def incOperand (o : Operand8) (s : State) : State := s.writeBack o (inc8 (s.readOperand o) s.flagC)

/-- DEC r and DEC (HL) (R193, R194). -/
def decOperand (o : Operand8) (s : State) : State := s.writeBack o (dec8 (s.readOperand o) s.flagC)

/-- DAA (R195). -/
def daaA (s : State) : State := s.setAccumulator (daa8 (s.reg8 .a) s.flagN s.flagH s.flagC)

/-- CPL (R196): Z and C are unchanged. -/
def cplA (s : State) : State := (s.setReg8 .a (~~~(s.reg8 .a))).setFlags s.flagZ true true s.flagC

/-- SCF (R197): Z is unchanged. -/
def scfC (s : State) : State := s.setFlags s.flagZ false false true

/-- CCF (R198): Z is unchanged. -/
def ccfC (s : State) : State := s.setFlags s.flagZ false false (!s.flagC)

/-! ## The instructions, one definition each -/

/-- INC B (R191). -/
def execInc_B (s : State) : Result := .next (incOperand (.reg .b) s)

/-- DEC B (R193). -/
def execDec_B (s : State) : Result := .next (decOperand (.reg .b) s)

/-- INC C (R191). -/
def execInc_C (s : State) : Result := .next (incOperand (.reg .c) s)

/-- DEC C (R193). -/
def execDec_C (s : State) : Result := .next (decOperand (.reg .c) s)

/-- INC D (R191). -/
def execInc_D (s : State) : Result := .next (incOperand (.reg .d) s)

/-- DEC D (R193). -/
def execDec_D (s : State) : Result := .next (decOperand (.reg .d) s)

/-- INC E (R191). -/
def execInc_E (s : State) : Result := .next (incOperand (.reg .e) s)

/-- DEC E (R193). -/
def execDec_E (s : State) : Result := .next (decOperand (.reg .e) s)

/-- INC H (R191). -/
def execInc_H (s : State) : Result := .next (incOperand (.reg .h) s)

/-- DEC H (R193). -/
def execDec_H (s : State) : Result := .next (decOperand (.reg .h) s)

/-- DAA (R195). -/
def execDaa (s : State) : Result := .next (daaA s)

/-- INC L (R191). -/
def execInc_L (s : State) : Result := .next (incOperand (.reg .l) s)

/-- DEC L (R193). -/
def execDec_L (s : State) : Result := .next (decOperand (.reg .l) s)

/-- CPL (R196). -/
def execCpl (s : State) : Result := .next (cplA s)

/-- INC (HL) (R192). -/
def execInc_atHL (s : State) : Result := .next (incOperand .atHL s)

/-- DEC (HL) (R194). -/
def execDec_atHL (s : State) : Result := .next (decOperand .atHL s)

/-- SCF (R197). -/
def execScf (s : State) : Result := .next (scfC s)

/-- INC A (R191). -/
def execInc_A (s : State) : Result := .next (incOperand (.reg .a) s)

/-- DEC A (R193). -/
def execDec_A (s : State) : Result := .next (decOperand (.reg .a) s)

/-- CCF (R198). -/
def execCcf (s : State) : Result := .next (ccfC s)

/-- ADD A,B (R183). -/
def execAdd_A_B (s : State) : Result := .next (addToA (s.readOperand (.reg .b)) s)

/-- ADD A,C (R183). -/
def execAdd_A_C (s : State) : Result := .next (addToA (s.readOperand (.reg .c)) s)

/-- ADD A,D (R183). -/
def execAdd_A_D (s : State) : Result := .next (addToA (s.readOperand (.reg .d)) s)

/-- ADD A,E (R183). -/
def execAdd_A_E (s : State) : Result := .next (addToA (s.readOperand (.reg .e)) s)

/-- ADD A,H (R183). -/
def execAdd_A_H (s : State) : Result := .next (addToA (s.readOperand (.reg .h)) s)

/-- ADD A,L (R183). -/
def execAdd_A_L (s : State) : Result := .next (addToA (s.readOperand (.reg .l)) s)

/-- ADD A,(HL) (R183). -/
def execAdd_A_atHL (s : State) : Result := .next (addToA (s.readOperand .atHL) s)

/-- ADD A,A (R183). -/
def execAdd_A_A (s : State) : Result := .next (addToA (s.readOperand (.reg .a)) s)

/-- ADC A,B (R184). -/
def execAdc_A_B (s : State) : Result := .next (adcToA (s.readOperand (.reg .b)) s)

/-- ADC A,C (R184). -/
def execAdc_A_C (s : State) : Result := .next (adcToA (s.readOperand (.reg .c)) s)

/-- ADC A,D (R184). -/
def execAdc_A_D (s : State) : Result := .next (adcToA (s.readOperand (.reg .d)) s)

/-- ADC A,E (R184). -/
def execAdc_A_E (s : State) : Result := .next (adcToA (s.readOperand (.reg .e)) s)

/-- ADC A,H (R184). -/
def execAdc_A_H (s : State) : Result := .next (adcToA (s.readOperand (.reg .h)) s)

/-- ADC A,L (R184). -/
def execAdc_A_L (s : State) : Result := .next (adcToA (s.readOperand (.reg .l)) s)

/-- ADC A,(HL) (R184). -/
def execAdc_A_atHL (s : State) : Result := .next (adcToA (s.readOperand .atHL) s)

/-- ADC A,A (R184). -/
def execAdc_A_A (s : State) : Result := .next (adcToA (s.readOperand (.reg .a)) s)

/-- SUB B (R185). -/
def execSub_B (s : State) : Result := .next (subToA (s.readOperand (.reg .b)) s)

/-- SUB C (R185). -/
def execSub_C (s : State) : Result := .next (subToA (s.readOperand (.reg .c)) s)

/-- SUB D (R185). -/
def execSub_D (s : State) : Result := .next (subToA (s.readOperand (.reg .d)) s)

/-- SUB E (R185). -/
def execSub_E (s : State) : Result := .next (subToA (s.readOperand (.reg .e)) s)

/-- SUB H (R185). -/
def execSub_H (s : State) : Result := .next (subToA (s.readOperand (.reg .h)) s)

/-- SUB L (R185). -/
def execSub_L (s : State) : Result := .next (subToA (s.readOperand (.reg .l)) s)

/-- SUB (HL) (R185). -/
def execSub_atHL (s : State) : Result := .next (subToA (s.readOperand .atHL) s)

/-- SUB A (R185). -/
def execSub_A (s : State) : Result := .next (subToA (s.readOperand (.reg .a)) s)

/-- SBC A,B (R186). -/
def execSbc_A_B (s : State) : Result := .next (sbcToA (s.readOperand (.reg .b)) s)

/-- SBC A,C (R186). -/
def execSbc_A_C (s : State) : Result := .next (sbcToA (s.readOperand (.reg .c)) s)

/-- SBC A,D (R186). -/
def execSbc_A_D (s : State) : Result := .next (sbcToA (s.readOperand (.reg .d)) s)

/-- SBC A,E (R186). -/
def execSbc_A_E (s : State) : Result := .next (sbcToA (s.readOperand (.reg .e)) s)

/-- SBC A,H (R186). -/
def execSbc_A_H (s : State) : Result := .next (sbcToA (s.readOperand (.reg .h)) s)

/-- SBC A,L (R186). -/
def execSbc_A_L (s : State) : Result := .next (sbcToA (s.readOperand (.reg .l)) s)

/-- SBC A,(HL) (R186). -/
def execSbc_A_atHL (s : State) : Result := .next (sbcToA (s.readOperand .atHL) s)

/-- SBC A,A (R186). -/
def execSbc_A_A (s : State) : Result := .next (sbcToA (s.readOperand (.reg .a)) s)

/-- AND B (R187). -/
def execAnd_B (s : State) : Result := .next (andToA (s.readOperand (.reg .b)) s)

/-- AND C (R187). -/
def execAnd_C (s : State) : Result := .next (andToA (s.readOperand (.reg .c)) s)

/-- AND D (R187). -/
def execAnd_D (s : State) : Result := .next (andToA (s.readOperand (.reg .d)) s)

/-- AND E (R187). -/
def execAnd_E (s : State) : Result := .next (andToA (s.readOperand (.reg .e)) s)

/-- AND H (R187). -/
def execAnd_H (s : State) : Result := .next (andToA (s.readOperand (.reg .h)) s)

/-- AND L (R187). -/
def execAnd_L (s : State) : Result := .next (andToA (s.readOperand (.reg .l)) s)

/-- AND (HL) (R187). -/
def execAnd_atHL (s : State) : Result := .next (andToA (s.readOperand .atHL) s)

/-- AND A (R187). -/
def execAnd_A (s : State) : Result := .next (andToA (s.readOperand (.reg .a)) s)

/-- XOR B (R188). -/
def execXor_B (s : State) : Result := .next (xorToA (s.readOperand (.reg .b)) s)

/-- XOR C (R188). -/
def execXor_C (s : State) : Result := .next (xorToA (s.readOperand (.reg .c)) s)

/-- XOR D (R188). -/
def execXor_D (s : State) : Result := .next (xorToA (s.readOperand (.reg .d)) s)

/-- XOR E (R188). -/
def execXor_E (s : State) : Result := .next (xorToA (s.readOperand (.reg .e)) s)

/-- XOR H (R188). -/
def execXor_H (s : State) : Result := .next (xorToA (s.readOperand (.reg .h)) s)

/-- XOR L (R188). -/
def execXor_L (s : State) : Result := .next (xorToA (s.readOperand (.reg .l)) s)

/-- XOR (HL) (R188). -/
def execXor_atHL (s : State) : Result := .next (xorToA (s.readOperand .atHL) s)

/-- XOR A (R188). -/
def execXor_A (s : State) : Result := .next (xorToA (s.readOperand (.reg .a)) s)

/-- OR B (R189). -/
def execOr_B (s : State) : Result := .next (orToA (s.readOperand (.reg .b)) s)

/-- OR C (R189). -/
def execOr_C (s : State) : Result := .next (orToA (s.readOperand (.reg .c)) s)

/-- OR D (R189). -/
def execOr_D (s : State) : Result := .next (orToA (s.readOperand (.reg .d)) s)

/-- OR E (R189). -/
def execOr_E (s : State) : Result := .next (orToA (s.readOperand (.reg .e)) s)

/-- OR H (R189). -/
def execOr_H (s : State) : Result := .next (orToA (s.readOperand (.reg .h)) s)

/-- OR L (R189). -/
def execOr_L (s : State) : Result := .next (orToA (s.readOperand (.reg .l)) s)

/-- OR (HL) (R189). -/
def execOr_atHL (s : State) : Result := .next (orToA (s.readOperand .atHL) s)

/-- OR A (R189). -/
def execOr_A (s : State) : Result := .next (orToA (s.readOperand (.reg .a)) s)

/-- CP B (R190). -/
def execCp_B (s : State) : Result := .next (cpToA (s.readOperand (.reg .b)) s)

/-- CP C (R190). -/
def execCp_C (s : State) : Result := .next (cpToA (s.readOperand (.reg .c)) s)

/-- CP D (R190). -/
def execCp_D (s : State) : Result := .next (cpToA (s.readOperand (.reg .d)) s)

/-- CP E (R190). -/
def execCp_E (s : State) : Result := .next (cpToA (s.readOperand (.reg .e)) s)

/-- CP H (R190). -/
def execCp_H (s : State) : Result := .next (cpToA (s.readOperand (.reg .h)) s)

/-- CP L (R190). -/
def execCp_L (s : State) : Result := .next (cpToA (s.readOperand (.reg .l)) s)

/-- CP (HL) (R190). -/
def execCp_atHL (s : State) : Result := .next (cpToA (s.readOperand .atHL) s)

/-- CP A (R190). -/
def execCp_A (s : State) : Result := .next (cpToA (s.readOperand (.reg .a)) s)

/-- ADD A,d8 (R183). -/
def execAdd_A_d8 (d8 : Byte) (s : State) : Result := .next (addToA d8 s)

/-- ADC A,d8 (R184). -/
def execAdc_A_d8 (d8 : Byte) (s : State) : Result := .next (adcToA d8 s)

/-- SUB d8 (R185). -/
def execSub_d8 (d8 : Byte) (s : State) : Result := .next (subToA d8 s)

/-- SBC A,d8 (R186). -/
def execSbc_A_d8 (d8 : Byte) (s : State) : Result := .next (sbcToA d8 s)

/-- AND d8 (R187). -/
def execAnd_d8 (d8 : Byte) (s : State) : Result := .next (andToA d8 s)

/-- XOR d8 (R188). -/
def execXor_d8 (d8 : Byte) (s : State) : Result := .next (xorToA d8 s)

/-- OR d8 (R189). -/
def execOr_d8 (d8 : Byte) (s : State) : Result := .next (orToA d8 s)

/-- CP d8 (R190). -/
def execCp_d8 (d8 : Byte) (s : State) : Result := .next (cpToA d8 s)

end Sys2Proof.Machine
end

