-- ==== Sys2Proof/Machine/Control.lean ====
section
/-! DEFINITION. The control transfers (44_control.md R250 to R260). PC is already past the instruction (R37). -/

namespace Sys2Proof.Machine

/-! ## The shared operations -/

/-- `branch_taken <- 1` (10_state.md R44). -/
def State.takeBranch (s : State) : State := { s with branchTaken := true }

/-- JP a16 and JP HL (R250, R252). -/
def jump (a : Word) (s : State) : State := s.setPc a

/-- JP cc,a16 (R251). -/
def jumpIf (cc : Cond) (a : Word) (s : State) : State := if s.cond cc then jump a s.takeBranch else s

/-- JR e8 (R253): relative to the address past the instruction. -/
def jumpRelative (b : Byte) (s : State) : State := s.setPc (s.regs.pc + sext16 b)

/-- JR cc,e8 (R254). -/
def jumpRelativeIf (cc : Cond) (b : Byte) (s : State) : State := if s.cond cc then jumpRelative b s.takeBranch else s

/-- CALL a16 (R255): the address past the instruction is pushed. -/
def call (a : Word) (s : State) : State := (s.push16 s.regs.pc).setPc a

/-- CALL cc,a16 (R256). -/
def callIf (cc : Cond) (a : Word) (s : State) : State := if s.cond cc then call a s.takeBranch else s

/-- RET (R257). -/
def ret (s : State) : State := s.popSp.setPc s.popValue

/-- RET cc (R258). -/
def retIf (cc : Cond) (s : State) : State := if s.cond cc then ret s.takeBranch else s

/-- RETI (R259). -/
def reti (s : State) : State := s.returnFromInterrupt

/-- RST t (R260): the target is `y * 8`. -/
def restart (y : Field3) (s : State) : State := (s.push16 s.regs.pc).setPc (8 * BitVec.ofNat 16 y.toNat)

/-! ## The instructions, one definition each -/

/-- JR e8 (R253). -/
def execJr_e8 (e8 : Byte) (s : State) : Result := .next (jumpRelative e8 s)

/-- JR NZ,e8 (R254). -/
def execJr_NZ_e8 (e8 : Byte) (s : State) : Result := .next (jumpRelativeIf .nz e8 s)

/-- JR Z,e8 (R254). -/
def execJr_Z_e8 (e8 : Byte) (s : State) : Result := .next (jumpRelativeIf .z e8 s)

/-- JR NC,e8 (R254). -/
def execJr_NC_e8 (e8 : Byte) (s : State) : Result := .next (jumpRelativeIf .nc e8 s)

/-- JR C,e8 (R254). -/
def execJr_C_e8 (e8 : Byte) (s : State) : Result := .next (jumpRelativeIf .c e8 s)

/-- RET NZ (R258). -/
def execRet_NZ (s : State) : Result := .next (retIf .nz s)

/-- JP NZ,a16 (R251). -/
def execJp_NZ_a16 (a16 : Word) (s : State) : Result := .next (jumpIf .nz a16 s)

/-- JP a16 (R250). -/
def execJp_a16 (a16 : Word) (s : State) : Result := .next (jump a16 s)

/-- CALL NZ,a16 (R256). -/
def execCall_NZ_a16 (a16 : Word) (s : State) : Result := .next (callIf .nz a16 s)

/-- RST 00H (R260). -/
def execRst_00H (s : State) : Result := .next (restart .n0 s)

/-- RET Z (R258). -/
def execRet_Z (s : State) : Result := .next (retIf .z s)

/-- RET (R257). -/
def execRet (s : State) : Result := .next (ret s)

/-- JP Z,a16 (R251). -/
def execJp_Z_a16 (a16 : Word) (s : State) : Result := .next (jumpIf .z a16 s)

/-- CALL Z,a16 (R256). -/
def execCall_Z_a16 (a16 : Word) (s : State) : Result := .next (callIf .z a16 s)

/-- CALL a16 (R255). -/
def execCall_a16 (a16 : Word) (s : State) : Result := .next (call a16 s)

/-- RST 08H (R260). -/
def execRst_08H (s : State) : Result := .next (restart .n1 s)

/-- RET NC (R258). -/
def execRet_NC (s : State) : Result := .next (retIf .nc s)

/-- JP NC,a16 (R251). -/
def execJp_NC_a16 (a16 : Word) (s : State) : Result := .next (jumpIf .nc a16 s)

/-- CALL NC,a16 (R256). -/
def execCall_NC_a16 (a16 : Word) (s : State) : Result := .next (callIf .nc a16 s)

/-- RST 10H (R260). -/
def execRst_10H (s : State) : Result := .next (restart .n2 s)

/-- RET C (R258). -/
def execRet_C (s : State) : Result := .next (retIf .c s)

/-- RETI (R259). -/
def execReti (s : State) : Result := .next (reti s)

/-- JP C,a16 (R251). -/
def execJp_C_a16 (a16 : Word) (s : State) : Result := .next (jumpIf .c a16 s)

/-- CALL C,a16 (R256). -/
def execCall_C_a16 (a16 : Word) (s : State) : Result := .next (callIf .c a16 s)

/-- RST 18H (R260). -/
def execRst_18H (s : State) : Result := .next (restart .n3 s)

/-- RST 20H (R260). -/
def execRst_20H (s : State) : Result := .next (restart .n4 s)

/-- JP HL (R252). -/
def execJp_HL (s : State) : Result := .next (jump (s.reg16 .hl) s)

/-- RST 28H (R260). -/
def execRst_28H (s : State) : Result := .next (restart .n5 s)

/-- RST 30H (R260). -/
def execRst_30H (s : State) : Result := .next (restart .n6 s)

/-- RST 38H (R260). -/
def execRst_38H (s : State) : Result := .next (restart .n7 s)

end Sys2Proof.Machine
end

