-- ==== Sys2Proof/Machine/Load.lean ====
section
/-! DEFINITION. The loads, stores and stack instructions (40_load.md R140 to R164). -/

namespace Sys2Proof.Machine

/-! ## The shared operations -/

/-- LD r,r' (R140). -/
def ldRegReg (dst src : Reg8) (s : State) : State := s.setReg8 dst (s.reg8 src)

/-- LD r,d8 (R141). -/
def ldRegImm (dst : Reg8) (v : Byte) (s : State) : State := s.setReg8 dst v

/-- LD r,(HL) (R142): the address is the old HL. -/
def ldRegAtHL (dst : Reg8) (s : State) : State := s.setReg8 dst (s.busRead (s.reg16 .hl))

/-- LD (HL),r (R143). -/
def ldAtHLReg (src : Reg8) (s : State) : State := s.busWrite (s.reg16 .hl) (s.reg8 src)

/-- LD (HL),d8 (R144). -/
def ldAtHLImm (v : Byte) (s : State) : State := s.busWrite (s.reg16 .hl) v

/-- LD A,(a) for an address from anywhere (R147, R149, R151). -/
def ldAAtAddr (a : Word) (s : State) : State := s.setReg8 .a (s.busRead a)

/-- LD (a),A for an address from anywhere (R148, R150, R152). -/
def ldAtAddrA (a : Word) (s : State) : State := s.busWrite a (s.reg8 .a)

/-- LD A,(rr) (R145). -/
def ldAAtPair (p : Pair) (s : State) : State := ldAAtAddr (s.reg16 p) s

/-- LD (rr),A (R146). -/
def ldAtPairA (p : Pair) (s : State) : State := ldAtAddrA (s.reg16 p) s

/-- LD (HL+),A and LD (HL-),A (R153, R154): HL moves by `step` after the store. -/
def ldAtHLStepA (step : Word) (s : State) : State :=
  let s := s.busWrite (s.reg16 .hl) (s.reg8 .a)
  s.setReg16 .hl (s.reg16 .hl + step)

/-- LD A,(HL+) and LD A,(HL-) (R155, R156): HL moves by `step` after the load. -/
def ldAAtHLStep (step : Word) (s : State) : State :=
  let s := s.setReg8 .a (s.busRead (s.reg16 .hl))
  s.setReg16 .hl (s.reg16 .hl + step)

/-- LD rr,d16 (R157). -/
def ldPairImm (p : Pair) (v : Word) (s : State) : State := s.setReg16 p v

/-- LD HL,SP+e8 (R158). -/
def ldHLSpE8 (b : Byte) (s : State) : State :=
  let (res, h, c) := addSpE8 s.regs.sp b
  (s.setReg16 .hl res).setFlags false false h c

/-- LD SP,HL (R159). -/
def ldSpHL (s : State) : State := s.setSp (s.reg16 .hl)

/-- LD (a16),SP (R164): the low byte first. -/
def ldAtAddrSp (a : Word) (s : State) : State := s.busWrite16 a s.regs.sp

/-- PUSH rr (R162). -/
def pushPair (p : StackPair) (s : State) : State := s.push16 (s.regs.getStack p)

/-- POP rr (R163); POP AF masks F (10_state.md R35). -/
def popPair (p : StackPair) (s : State) : State :=
  let v := s.popValue
  let s := s.popSp
  { s with regs := s.regs.setStack p v }

/-! ## The instructions, one definition each -/

/-- LD BC,d16 (R157). -/
def execLd_BC_d16 (d16 : Word) (s : State) : Result := .next (ldPairImm .bc d16 s)

/-- LD (BC),A (R146). -/
def execLd_atBC_A (s : State) : Result := .next (ldAtPairA .bc s)

/-- LD B,d8 (R141). -/
def execLd_B_d8 (d8 : Byte) (s : State) : Result := .next (ldRegImm .b d8 s)

/-- LD (a16),SP (R164). -/
def execLd_atA16_SP (a16 : Word) (s : State) : Result := .next (ldAtAddrSp a16 s)

/-- LD A,(BC) (R145). -/
def execLd_A_atBC (s : State) : Result := .next (ldAAtPair .bc s)

/-- LD C,d8 (R141). -/
def execLd_C_d8 (d8 : Byte) (s : State) : Result := .next (ldRegImm .c d8 s)

/-- LD DE,d16 (R157). -/
def execLd_DE_d16 (d16 : Word) (s : State) : Result := .next (ldPairImm .de d16 s)

/-- LD (DE),A (R146). -/
def execLd_atDE_A (s : State) : Result := .next (ldAtPairA .de s)

/-- LD D,d8 (R141). -/
def execLd_D_d8 (d8 : Byte) (s : State) : Result := .next (ldRegImm .d d8 s)

/-- LD A,(DE) (R145). -/
def execLd_A_atDE (s : State) : Result := .next (ldAAtPair .de s)

/-- LD E,d8 (R141). -/
def execLd_E_d8 (d8 : Byte) (s : State) : Result := .next (ldRegImm .e d8 s)

/-- LD HL,d16 (R157). -/
def execLd_HL_d16 (d16 : Word) (s : State) : Result := .next (ldPairImm .hl d16 s)

/-- LD (HL+),A (R153). -/
def execLd_atHLinc_A (s : State) : Result := .next (ldAtHLStepA 1 s)

/-- LD H,d8 (R141). -/
def execLd_H_d8 (d8 : Byte) (s : State) : Result := .next (ldRegImm .h d8 s)

/-- LD A,(HL+) (R155). -/
def execLd_A_atHLinc (s : State) : Result := .next (ldAAtHLStep 1 s)

/-- LD L,d8 (R141). -/
def execLd_L_d8 (d8 : Byte) (s : State) : Result := .next (ldRegImm .l d8 s)

/-- LD SP,d16 (R157). -/
def execLd_SP_d16 (d16 : Word) (s : State) : Result := .next (ldPairImm .sp d16 s)

/-- LD (HL-),A (R154). -/
def execLd_atHLdec_A (s : State) : Result := .next (ldAtHLStepA (-1) s)

/-- LD (HL),d8 (R144). -/
def execLd_atHL_d8 (d8 : Byte) (s : State) : Result := .next (ldAtHLImm d8 s)

/-- LD A,(HL-) (R156). -/
def execLd_A_atHLdec (s : State) : Result := .next (ldAAtHLStep (-1) s)

/-- LD A,d8 (R141). -/
def execLd_A_d8 (d8 : Byte) (s : State) : Result := .next (ldRegImm .a d8 s)

/-- LD B,B (R140). -/
def execLd_B_B (s : State) : Result := .next (ldRegReg .b .b s)

/-- LD B,C (R140). -/
def execLd_B_C (s : State) : Result := .next (ldRegReg .b .c s)

/-- LD B,D (R140). -/
def execLd_B_D (s : State) : Result := .next (ldRegReg .b .d s)

/-- LD B,E (R140). -/
def execLd_B_E (s : State) : Result := .next (ldRegReg .b .e s)

/-- LD B,H (R140). -/
def execLd_B_H (s : State) : Result := .next (ldRegReg .b .h s)

/-- LD B,L (R140). -/
def execLd_B_L (s : State) : Result := .next (ldRegReg .b .l s)

/-- LD B,(HL) (R142). -/
def execLd_B_atHL (s : State) : Result := .next (ldRegAtHL .b s)

/-- LD B,A (R140). -/
def execLd_B_A (s : State) : Result := .next (ldRegReg .b .a s)

/-- LD C,B (R140). -/
def execLd_C_B (s : State) : Result := .next (ldRegReg .c .b s)

/-- LD C,C (R140). -/
def execLd_C_C (s : State) : Result := .next (ldRegReg .c .c s)

/-- LD C,D (R140). -/
def execLd_C_D (s : State) : Result := .next (ldRegReg .c .d s)

/-- LD C,E (R140). -/
def execLd_C_E (s : State) : Result := .next (ldRegReg .c .e s)

/-- LD C,H (R140). -/
def execLd_C_H (s : State) : Result := .next (ldRegReg .c .h s)

/-- LD C,L (R140). -/
def execLd_C_L (s : State) : Result := .next (ldRegReg .c .l s)

/-- LD C,(HL) (R142). -/
def execLd_C_atHL (s : State) : Result := .next (ldRegAtHL .c s)

/-- LD C,A (R140). -/
def execLd_C_A (s : State) : Result := .next (ldRegReg .c .a s)

/-- LD D,B (R140). -/
def execLd_D_B (s : State) : Result := .next (ldRegReg .d .b s)

/-- LD D,C (R140). -/
def execLd_D_C (s : State) : Result := .next (ldRegReg .d .c s)

/-- LD D,D (R140). -/
def execLd_D_D (s : State) : Result := .next (ldRegReg .d .d s)

/-- LD D,E (R140). -/
def execLd_D_E (s : State) : Result := .next (ldRegReg .d .e s)

/-- LD D,H (R140). -/
def execLd_D_H (s : State) : Result := .next (ldRegReg .d .h s)

/-- LD D,L (R140). -/
def execLd_D_L (s : State) : Result := .next (ldRegReg .d .l s)

/-- LD D,(HL) (R142). -/
def execLd_D_atHL (s : State) : Result := .next (ldRegAtHL .d s)

/-- LD D,A (R140). -/
def execLd_D_A (s : State) : Result := .next (ldRegReg .d .a s)

/-- LD E,B (R140). -/
def execLd_E_B (s : State) : Result := .next (ldRegReg .e .b s)

/-- LD E,C (R140). -/
def execLd_E_C (s : State) : Result := .next (ldRegReg .e .c s)

/-- LD E,D (R140). -/
def execLd_E_D (s : State) : Result := .next (ldRegReg .e .d s)

/-- LD E,E (R140). -/
def execLd_E_E (s : State) : Result := .next (ldRegReg .e .e s)

/-- LD E,H (R140). -/
def execLd_E_H (s : State) : Result := .next (ldRegReg .e .h s)

/-- LD E,L (R140). -/
def execLd_E_L (s : State) : Result := .next (ldRegReg .e .l s)

/-- LD E,(HL) (R142). -/
def execLd_E_atHL (s : State) : Result := .next (ldRegAtHL .e s)

/-- LD E,A (R140). -/
def execLd_E_A (s : State) : Result := .next (ldRegReg .e .a s)

/-- LD H,B (R140). -/
def execLd_H_B (s : State) : Result := .next (ldRegReg .h .b s)

/-- LD H,C (R140). -/
def execLd_H_C (s : State) : Result := .next (ldRegReg .h .c s)

/-- LD H,D (R140). -/
def execLd_H_D (s : State) : Result := .next (ldRegReg .h .d s)

/-- LD H,E (R140). -/
def execLd_H_E (s : State) : Result := .next (ldRegReg .h .e s)

/-- LD H,H (R140). -/
def execLd_H_H (s : State) : Result := .next (ldRegReg .h .h s)

/-- LD H,L (R140). -/
def execLd_H_L (s : State) : Result := .next (ldRegReg .h .l s)

/-- LD H,(HL) (R142). -/
def execLd_H_atHL (s : State) : Result := .next (ldRegAtHL .h s)

/-- LD H,A (R140). -/
def execLd_H_A (s : State) : Result := .next (ldRegReg .h .a s)

/-- LD L,B (R140). -/
def execLd_L_B (s : State) : Result := .next (ldRegReg .l .b s)

/-- LD L,C (R140). -/
def execLd_L_C (s : State) : Result := .next (ldRegReg .l .c s)

/-- LD L,D (R140). -/
def execLd_L_D (s : State) : Result := .next (ldRegReg .l .d s)

/-- LD L,E (R140). -/
def execLd_L_E (s : State) : Result := .next (ldRegReg .l .e s)

/-- LD L,H (R140). -/
def execLd_L_H (s : State) : Result := .next (ldRegReg .l .h s)

/-- LD L,L (R140). -/
def execLd_L_L (s : State) : Result := .next (ldRegReg .l .l s)

/-- LD L,(HL) (R142). -/
def execLd_L_atHL (s : State) : Result := .next (ldRegAtHL .l s)

/-- LD L,A (R140). -/
def execLd_L_A (s : State) : Result := .next (ldRegReg .l .a s)

/-- LD (HL),B (R143). -/
def execLd_atHL_B (s : State) : Result := .next (ldAtHLReg .b s)

/-- LD (HL),C (R143). -/
def execLd_atHL_C (s : State) : Result := .next (ldAtHLReg .c s)

/-- LD (HL),D (R143). -/
def execLd_atHL_D (s : State) : Result := .next (ldAtHLReg .d s)

/-- LD (HL),E (R143). -/
def execLd_atHL_E (s : State) : Result := .next (ldAtHLReg .e s)

/-- LD (HL),H (R143). -/
def execLd_atHL_H (s : State) : Result := .next (ldAtHLReg .h s)

/-- LD (HL),L (R143). -/
def execLd_atHL_L (s : State) : Result := .next (ldAtHLReg .l s)

/-- LD (HL),A (R143). -/
def execLd_atHL_A (s : State) : Result := .next (ldAtHLReg .a s)

/-- LD A,B (R140). -/
def execLd_A_B (s : State) : Result := .next (ldRegReg .a .b s)

/-- LD A,C (R140). -/
def execLd_A_C (s : State) : Result := .next (ldRegReg .a .c s)

/-- LD A,D (R140). -/
def execLd_A_D (s : State) : Result := .next (ldRegReg .a .d s)

/-- LD A,E (R140). -/
def execLd_A_E (s : State) : Result := .next (ldRegReg .a .e s)

/-- LD A,H (R140). -/
def execLd_A_H (s : State) : Result := .next (ldRegReg .a .h s)

/-- LD A,L (R140). -/
def execLd_A_L (s : State) : Result := .next (ldRegReg .a .l s)

/-- LD A,(HL) (R142). -/
def execLd_A_atHL (s : State) : Result := .next (ldRegAtHL .a s)

/-- LD A,A (R140). -/
def execLd_A_A (s : State) : Result := .next (ldRegReg .a .a s)

/-- POP BC (R163). -/
def execPop_BC (s : State) : Result := .next (popPair .bc s)

/-- PUSH BC (R162). -/
def execPush_BC (s : State) : Result := .next (pushPair .bc s)

/-- POP DE (R163). -/
def execPop_DE (s : State) : Result := .next (popPair .de s)

/-- PUSH DE (R162). -/
def execPush_DE (s : State) : Result := .next (pushPair .de s)

/-- LDH (a8),A (R150). -/
def execLdh_atA8_A (a8 : Byte) (s : State) : Result := .next (ldAtAddrA (highPage a8) s)

/-- POP HL (R163). -/
def execPop_HL (s : State) : Result := .next (popPair .hl s)

/-- LD (C),A (R152). -/
def execLd_atC_A (s : State) : Result := .next (ldAtAddrA (highPage s.regs.c) s)

/-- PUSH HL (R162). -/
def execPush_HL (s : State) : Result := .next (pushPair .hl s)

/-- LD (a16),A (R148). -/
def execLd_atA16_A (a16 : Word) (s : State) : Result := .next (ldAtAddrA a16 s)

/-- LDH A,(a8) (R149). -/
def execLdh_A_atA8 (a8 : Byte) (s : State) : Result := .next (ldAAtAddr (highPage a8) s)

/-- POP AF (R163). -/
def execPop_AF (s : State) : Result := .next (popPair .af s)

/-- LD A,(C) (R151). -/
def execLd_A_atC (s : State) : Result := .next (ldAAtAddr (highPage s.regs.c) s)

/-- PUSH AF (R162). -/
def execPush_AF (s : State) : Result := .next (pushPair .af s)

/-- LD HL,SP+e8 (R158). -/
def execLd_HL_SPe8 (e8 : Byte) (s : State) : Result := .next (ldHLSpE8 e8 s)

/-- LD SP,HL (R159). -/
def execLd_SP_HL (s : State) : Result := .next (ldSpHL s)

/-- LD A,(a16) (R147). -/
def execLd_A_atA16 (a16 : Word) (s : State) : Result := .next (ldAAtAddr a16 s)

end Sys2Proof.Machine
end

