-- ==== Sys2Proof/Machine/RotateBit.lean ====
section
/-! DEFINITION. The rotates, shifts and bit operations (43_rotate_bit.md R225 to R240). -/

namespace Sys2Proof.Machine

/-! ## The shared operations -/

/-- RLCA (R225). -/
def rlcA (s : State) : State := s.setAccumulator (rotateAOut (rlc8 (s.reg8 .a)))

/-- RRCA (R226). -/
def rrcA (s : State) : State := s.setAccumulator (rotateAOut (rrc8 (s.reg8 .a)))

/-- RLA (R227). -/
def rlA (s : State) : State := s.setAccumulator (rotateAOut (rl8 (s.reg8 .a) s.flagC))

/-- RRA (R228). -/
def rrA (s : State) : State := s.setAccumulator (rotateAOut (rr8 (s.reg8 .a) s.flagC))

/-- RLC r (R230). -/
def rlcOperand (o : Operand8) (s : State) : State := s.writeBack o (rotateOut (rlc8 (s.readOperand o)))

/-- RRC r (R231). -/
def rrcOperand (o : Operand8) (s : State) : State := s.writeBack o (rotateOut (rrc8 (s.readOperand o)))

/-- RL r (R232). -/
def rlOperand (o : Operand8) (s : State) : State := s.writeBack o (rotateOut (rl8 (s.readOperand o) s.flagC))

/-- RR r (R233). -/
def rrOperand (o : Operand8) (s : State) : State := s.writeBack o (rotateOut (rr8 (s.readOperand o) s.flagC))

/-- SLA r (R234). -/
def slaOperand (o : Operand8) (s : State) : State := s.writeBack o (rotateOut (sla8 (s.readOperand o)))

/-- SRA r (R235). -/
def sraOperand (o : Operand8) (s : State) : State := s.writeBack o (rotateOut (sra8 (s.readOperand o)))

/-- SWAP r (R236). -/
def swapOperand (o : Operand8) (s : State) : State := s.writeBack o (rotateOut (swap8 (s.readOperand o)))

/-- SRL r (R237). -/
def srlOperand (o : Operand8) (s : State) : State := s.writeBack o (rotateOut (srl8 (s.readOperand o)))

/-- BIT b,r (R238): a read only; C is unchanged. -/
def bitOperand (n : Field3) (o : Operand8) (s : State) : State :=
  s.setFlags (!bit (s.readOperand o) n.toNat) false true s.flagC

/-- RES b,r (R239): no flag is written. -/
def resOperand (n : Field3) (o : Operand8) (s : State) : State :=
  s.writeOperand o (s.readOperand o &&& ~~~(bitMask n.toNat))

/-- SET b,r (R240): no flag is written. -/
def setOperand (n : Field3) (o : Operand8) (s : State) : State :=
  s.writeOperand o (s.readOperand o ||| bitMask n.toNat)

/-! ## The instructions, one definition each -/

/-- RLCA (R225). -/
def execRlca (s : State) : Result := .next (rlcA s)

/-- RRCA (R226). -/
def execRrca (s : State) : Result := .next (rrcA s)

/-- RLA (R227). -/
def execRla (s : State) : Result := .next (rlA s)

/-- RRA (R228). -/
def execRra (s : State) : Result := .next (rrA s)

/-- RLC B (R230). -/
def execRlc_B (s : State) : Result := .next (rlcOperand (.reg .b) s)

/-- RLC C (R230). -/
def execRlc_C (s : State) : Result := .next (rlcOperand (.reg .c) s)

/-- RLC D (R230). -/
def execRlc_D (s : State) : Result := .next (rlcOperand (.reg .d) s)

/-- RLC E (R230). -/
def execRlc_E (s : State) : Result := .next (rlcOperand (.reg .e) s)

/-- RLC H (R230). -/
def execRlc_H (s : State) : Result := .next (rlcOperand (.reg .h) s)

/-- RLC L (R230). -/
def execRlc_L (s : State) : Result := .next (rlcOperand (.reg .l) s)

/-- RLC (HL) (R230). -/
def execRlc_atHL (s : State) : Result := .next (rlcOperand .atHL s)

/-- RLC A (R230). -/
def execRlc_A (s : State) : Result := .next (rlcOperand (.reg .a) s)

/-- RRC B (R231). -/
def execRrc_B (s : State) : Result := .next (rrcOperand (.reg .b) s)

/-- RRC C (R231). -/
def execRrc_C (s : State) : Result := .next (rrcOperand (.reg .c) s)

/-- RRC D (R231). -/
def execRrc_D (s : State) : Result := .next (rrcOperand (.reg .d) s)

/-- RRC E (R231). -/
def execRrc_E (s : State) : Result := .next (rrcOperand (.reg .e) s)

/-- RRC H (R231). -/
def execRrc_H (s : State) : Result := .next (rrcOperand (.reg .h) s)

/-- RRC L (R231). -/
def execRrc_L (s : State) : Result := .next (rrcOperand (.reg .l) s)

/-- RRC (HL) (R231). -/
def execRrc_atHL (s : State) : Result := .next (rrcOperand .atHL s)

/-- RRC A (R231). -/
def execRrc_A (s : State) : Result := .next (rrcOperand (.reg .a) s)

/-- RL B (R232). -/
def execRl_B (s : State) : Result := .next (rlOperand (.reg .b) s)

/-- RL C (R232). -/
def execRl_C (s : State) : Result := .next (rlOperand (.reg .c) s)

/-- RL D (R232). -/
def execRl_D (s : State) : Result := .next (rlOperand (.reg .d) s)

/-- RL E (R232). -/
def execRl_E (s : State) : Result := .next (rlOperand (.reg .e) s)

/-- RL H (R232). -/
def execRl_H (s : State) : Result := .next (rlOperand (.reg .h) s)

/-- RL L (R232). -/
def execRl_L (s : State) : Result := .next (rlOperand (.reg .l) s)

/-- RL (HL) (R232). -/
def execRl_atHL (s : State) : Result := .next (rlOperand .atHL s)

/-- RL A (R232). -/
def execRl_A (s : State) : Result := .next (rlOperand (.reg .a) s)

/-- RR B (R233). -/
def execRr_B (s : State) : Result := .next (rrOperand (.reg .b) s)

/-- RR C (R233). -/
def execRr_C (s : State) : Result := .next (rrOperand (.reg .c) s)

/-- RR D (R233). -/
def execRr_D (s : State) : Result := .next (rrOperand (.reg .d) s)

/-- RR E (R233). -/
def execRr_E (s : State) : Result := .next (rrOperand (.reg .e) s)

/-- RR H (R233). -/
def execRr_H (s : State) : Result := .next (rrOperand (.reg .h) s)

/-- RR L (R233). -/
def execRr_L (s : State) : Result := .next (rrOperand (.reg .l) s)

/-- RR (HL) (R233). -/
def execRr_atHL (s : State) : Result := .next (rrOperand .atHL s)

/-- RR A (R233). -/
def execRr_A (s : State) : Result := .next (rrOperand (.reg .a) s)

/-- SLA B (R234). -/
def execSla_B (s : State) : Result := .next (slaOperand (.reg .b) s)

/-- SLA C (R234). -/
def execSla_C (s : State) : Result := .next (slaOperand (.reg .c) s)

/-- SLA D (R234). -/
def execSla_D (s : State) : Result := .next (slaOperand (.reg .d) s)

/-- SLA E (R234). -/
def execSla_E (s : State) : Result := .next (slaOperand (.reg .e) s)

/-- SLA H (R234). -/
def execSla_H (s : State) : Result := .next (slaOperand (.reg .h) s)

/-- SLA L (R234). -/
def execSla_L (s : State) : Result := .next (slaOperand (.reg .l) s)

/-- SLA (HL) (R234). -/
def execSla_atHL (s : State) : Result := .next (slaOperand .atHL s)

/-- SLA A (R234). -/
def execSla_A (s : State) : Result := .next (slaOperand (.reg .a) s)

/-- SRA B (R235). -/
def execSra_B (s : State) : Result := .next (sraOperand (.reg .b) s)

/-- SRA C (R235). -/
def execSra_C (s : State) : Result := .next (sraOperand (.reg .c) s)

/-- SRA D (R235). -/
def execSra_D (s : State) : Result := .next (sraOperand (.reg .d) s)

/-- SRA E (R235). -/
def execSra_E (s : State) : Result := .next (sraOperand (.reg .e) s)

/-- SRA H (R235). -/
def execSra_H (s : State) : Result := .next (sraOperand (.reg .h) s)

/-- SRA L (R235). -/
def execSra_L (s : State) : Result := .next (sraOperand (.reg .l) s)

/-- SRA (HL) (R235). -/
def execSra_atHL (s : State) : Result := .next (sraOperand .atHL s)

/-- SRA A (R235). -/
def execSra_A (s : State) : Result := .next (sraOperand (.reg .a) s)

/-- SWAP B (R236). -/
def execSwap_B (s : State) : Result := .next (swapOperand (.reg .b) s)

/-- SWAP C (R236). -/
def execSwap_C (s : State) : Result := .next (swapOperand (.reg .c) s)

/-- SWAP D (R236). -/
def execSwap_D (s : State) : Result := .next (swapOperand (.reg .d) s)

/-- SWAP E (R236). -/
def execSwap_E (s : State) : Result := .next (swapOperand (.reg .e) s)

/-- SWAP H (R236). -/
def execSwap_H (s : State) : Result := .next (swapOperand (.reg .h) s)

/-- SWAP L (R236). -/
def execSwap_L (s : State) : Result := .next (swapOperand (.reg .l) s)

/-- SWAP (HL) (R236). -/
def execSwap_atHL (s : State) : Result := .next (swapOperand .atHL s)

/-- SWAP A (R236). -/
def execSwap_A (s : State) : Result := .next (swapOperand (.reg .a) s)

/-- SRL B (R237). -/
def execSrl_B (s : State) : Result := .next (srlOperand (.reg .b) s)

/-- SRL C (R237). -/
def execSrl_C (s : State) : Result := .next (srlOperand (.reg .c) s)

/-- SRL D (R237). -/
def execSrl_D (s : State) : Result := .next (srlOperand (.reg .d) s)

/-- SRL E (R237). -/
def execSrl_E (s : State) : Result := .next (srlOperand (.reg .e) s)

/-- SRL H (R237). -/
def execSrl_H (s : State) : Result := .next (srlOperand (.reg .h) s)

/-- SRL L (R237). -/
def execSrl_L (s : State) : Result := .next (srlOperand (.reg .l) s)

/-- SRL (HL) (R237). -/
def execSrl_atHL (s : State) : Result := .next (srlOperand .atHL s)

/-- SRL A (R237). -/
def execSrl_A (s : State) : Result := .next (srlOperand (.reg .a) s)

/-- BIT 0,B (R238). -/
def execBit_0_B (s : State) : Result := .next (bitOperand .n0 (.reg .b) s)

/-- BIT 0,C (R238). -/
def execBit_0_C (s : State) : Result := .next (bitOperand .n0 (.reg .c) s)

/-- BIT 0,D (R238). -/
def execBit_0_D (s : State) : Result := .next (bitOperand .n0 (.reg .d) s)

/-- BIT 0,E (R238). -/
def execBit_0_E (s : State) : Result := .next (bitOperand .n0 (.reg .e) s)

/-- BIT 0,H (R238). -/
def execBit_0_H (s : State) : Result := .next (bitOperand .n0 (.reg .h) s)

/-- BIT 0,L (R238). -/
def execBit_0_L (s : State) : Result := .next (bitOperand .n0 (.reg .l) s)

/-- BIT 0,(HL) (R238). -/
def execBit_0_atHL (s : State) : Result := .next (bitOperand .n0 .atHL s)

/-- BIT 0,A (R238). -/
def execBit_0_A (s : State) : Result := .next (bitOperand .n0 (.reg .a) s)

/-- BIT 1,B (R238). -/
def execBit_1_B (s : State) : Result := .next (bitOperand .n1 (.reg .b) s)

/-- BIT 1,C (R238). -/
def execBit_1_C (s : State) : Result := .next (bitOperand .n1 (.reg .c) s)

/-- BIT 1,D (R238). -/
def execBit_1_D (s : State) : Result := .next (bitOperand .n1 (.reg .d) s)

/-- BIT 1,E (R238). -/
def execBit_1_E (s : State) : Result := .next (bitOperand .n1 (.reg .e) s)

/-- BIT 1,H (R238). -/
def execBit_1_H (s : State) : Result := .next (bitOperand .n1 (.reg .h) s)

/-- BIT 1,L (R238). -/
def execBit_1_L (s : State) : Result := .next (bitOperand .n1 (.reg .l) s)

/-- BIT 1,(HL) (R238). -/
def execBit_1_atHL (s : State) : Result := .next (bitOperand .n1 .atHL s)

/-- BIT 1,A (R238). -/
def execBit_1_A (s : State) : Result := .next (bitOperand .n1 (.reg .a) s)

/-- BIT 2,B (R238). -/
def execBit_2_B (s : State) : Result := .next (bitOperand .n2 (.reg .b) s)

/-- BIT 2,C (R238). -/
def execBit_2_C (s : State) : Result := .next (bitOperand .n2 (.reg .c) s)

/-- BIT 2,D (R238). -/
def execBit_2_D (s : State) : Result := .next (bitOperand .n2 (.reg .d) s)

/-- BIT 2,E (R238). -/
def execBit_2_E (s : State) : Result := .next (bitOperand .n2 (.reg .e) s)

/-- BIT 2,H (R238). -/
def execBit_2_H (s : State) : Result := .next (bitOperand .n2 (.reg .h) s)

/-- BIT 2,L (R238). -/
def execBit_2_L (s : State) : Result := .next (bitOperand .n2 (.reg .l) s)

/-- BIT 2,(HL) (R238). -/
def execBit_2_atHL (s : State) : Result := .next (bitOperand .n2 .atHL s)

/-- BIT 2,A (R238). -/
def execBit_2_A (s : State) : Result := .next (bitOperand .n2 (.reg .a) s)

/-- BIT 3,B (R238). -/
def execBit_3_B (s : State) : Result := .next (bitOperand .n3 (.reg .b) s)

/-- BIT 3,C (R238). -/
def execBit_3_C (s : State) : Result := .next (bitOperand .n3 (.reg .c) s)

/-- BIT 3,D (R238). -/
def execBit_3_D (s : State) : Result := .next (bitOperand .n3 (.reg .d) s)

/-- BIT 3,E (R238). -/
def execBit_3_E (s : State) : Result := .next (bitOperand .n3 (.reg .e) s)

/-- BIT 3,H (R238). -/
def execBit_3_H (s : State) : Result := .next (bitOperand .n3 (.reg .h) s)

/-- BIT 3,L (R238). -/
def execBit_3_L (s : State) : Result := .next (bitOperand .n3 (.reg .l) s)

/-- BIT 3,(HL) (R238). -/
def execBit_3_atHL (s : State) : Result := .next (bitOperand .n3 .atHL s)

/-- BIT 3,A (R238). -/
def execBit_3_A (s : State) : Result := .next (bitOperand .n3 (.reg .a) s)

/-- BIT 4,B (R238). -/
def execBit_4_B (s : State) : Result := .next (bitOperand .n4 (.reg .b) s)

/-- BIT 4,C (R238). -/
def execBit_4_C (s : State) : Result := .next (bitOperand .n4 (.reg .c) s)

/-- BIT 4,D (R238). -/
def execBit_4_D (s : State) : Result := .next (bitOperand .n4 (.reg .d) s)

/-- BIT 4,E (R238). -/
def execBit_4_E (s : State) : Result := .next (bitOperand .n4 (.reg .e) s)

/-- BIT 4,H (R238). -/
def execBit_4_H (s : State) : Result := .next (bitOperand .n4 (.reg .h) s)

/-- BIT 4,L (R238). -/
def execBit_4_L (s : State) : Result := .next (bitOperand .n4 (.reg .l) s)

/-- BIT 4,(HL) (R238). -/
def execBit_4_atHL (s : State) : Result := .next (bitOperand .n4 .atHL s)

/-- BIT 4,A (R238). -/
def execBit_4_A (s : State) : Result := .next (bitOperand .n4 (.reg .a) s)

/-- BIT 5,B (R238). -/
def execBit_5_B (s : State) : Result := .next (bitOperand .n5 (.reg .b) s)

/-- BIT 5,C (R238). -/
def execBit_5_C (s : State) : Result := .next (bitOperand .n5 (.reg .c) s)

/-- BIT 5,D (R238). -/
def execBit_5_D (s : State) : Result := .next (bitOperand .n5 (.reg .d) s)

/-- BIT 5,E (R238). -/
def execBit_5_E (s : State) : Result := .next (bitOperand .n5 (.reg .e) s)

/-- BIT 5,H (R238). -/
def execBit_5_H (s : State) : Result := .next (bitOperand .n5 (.reg .h) s)

/-- BIT 5,L (R238). -/
def execBit_5_L (s : State) : Result := .next (bitOperand .n5 (.reg .l) s)

/-- BIT 5,(HL) (R238). -/
def execBit_5_atHL (s : State) : Result := .next (bitOperand .n5 .atHL s)

/-- BIT 5,A (R238). -/
def execBit_5_A (s : State) : Result := .next (bitOperand .n5 (.reg .a) s)

/-- BIT 6,B (R238). -/
def execBit_6_B (s : State) : Result := .next (bitOperand .n6 (.reg .b) s)

/-- BIT 6,C (R238). -/
def execBit_6_C (s : State) : Result := .next (bitOperand .n6 (.reg .c) s)

/-- BIT 6,D (R238). -/
def execBit_6_D (s : State) : Result := .next (bitOperand .n6 (.reg .d) s)

/-- BIT 6,E (R238). -/
def execBit_6_E (s : State) : Result := .next (bitOperand .n6 (.reg .e) s)

/-- BIT 6,H (R238). -/
def execBit_6_H (s : State) : Result := .next (bitOperand .n6 (.reg .h) s)

/-- BIT 6,L (R238). -/
def execBit_6_L (s : State) : Result := .next (bitOperand .n6 (.reg .l) s)

/-- BIT 6,(HL) (R238). -/
def execBit_6_atHL (s : State) : Result := .next (bitOperand .n6 .atHL s)

/-- BIT 6,A (R238). -/
def execBit_6_A (s : State) : Result := .next (bitOperand .n6 (.reg .a) s)

/-- BIT 7,B (R238). -/
def execBit_7_B (s : State) : Result := .next (bitOperand .n7 (.reg .b) s)

/-- BIT 7,C (R238). -/
def execBit_7_C (s : State) : Result := .next (bitOperand .n7 (.reg .c) s)

/-- BIT 7,D (R238). -/
def execBit_7_D (s : State) : Result := .next (bitOperand .n7 (.reg .d) s)

/-- BIT 7,E (R238). -/
def execBit_7_E (s : State) : Result := .next (bitOperand .n7 (.reg .e) s)

/-- BIT 7,H (R238). -/
def execBit_7_H (s : State) : Result := .next (bitOperand .n7 (.reg .h) s)

/-- BIT 7,L (R238). -/
def execBit_7_L (s : State) : Result := .next (bitOperand .n7 (.reg .l) s)

/-- BIT 7,(HL) (R238). -/
def execBit_7_atHL (s : State) : Result := .next (bitOperand .n7 .atHL s)

/-- BIT 7,A (R238). -/
def execBit_7_A (s : State) : Result := .next (bitOperand .n7 (.reg .a) s)

/-- RES 0,B (R239). -/
def execRes_0_B (s : State) : Result := .next (resOperand .n0 (.reg .b) s)

/-- RES 0,C (R239). -/
def execRes_0_C (s : State) : Result := .next (resOperand .n0 (.reg .c) s)

/-- RES 0,D (R239). -/
def execRes_0_D (s : State) : Result := .next (resOperand .n0 (.reg .d) s)

/-- RES 0,E (R239). -/
def execRes_0_E (s : State) : Result := .next (resOperand .n0 (.reg .e) s)

/-- RES 0,H (R239). -/
def execRes_0_H (s : State) : Result := .next (resOperand .n0 (.reg .h) s)

/-- RES 0,L (R239). -/
def execRes_0_L (s : State) : Result := .next (resOperand .n0 (.reg .l) s)

/-- RES 0,(HL) (R239). -/
def execRes_0_atHL (s : State) : Result := .next (resOperand .n0 .atHL s)

/-- RES 0,A (R239). -/
def execRes_0_A (s : State) : Result := .next (resOperand .n0 (.reg .a) s)

/-- RES 1,B (R239). -/
def execRes_1_B (s : State) : Result := .next (resOperand .n1 (.reg .b) s)

/-- RES 1,C (R239). -/
def execRes_1_C (s : State) : Result := .next (resOperand .n1 (.reg .c) s)

/-- RES 1,D (R239). -/
def execRes_1_D (s : State) : Result := .next (resOperand .n1 (.reg .d) s)

/-- RES 1,E (R239). -/
def execRes_1_E (s : State) : Result := .next (resOperand .n1 (.reg .e) s)

/-- RES 1,H (R239). -/
def execRes_1_H (s : State) : Result := .next (resOperand .n1 (.reg .h) s)

/-- RES 1,L (R239). -/
def execRes_1_L (s : State) : Result := .next (resOperand .n1 (.reg .l) s)

/-- RES 1,(HL) (R239). -/
def execRes_1_atHL (s : State) : Result := .next (resOperand .n1 .atHL s)

/-- RES 1,A (R239). -/
def execRes_1_A (s : State) : Result := .next (resOperand .n1 (.reg .a) s)

/-- RES 2,B (R239). -/
def execRes_2_B (s : State) : Result := .next (resOperand .n2 (.reg .b) s)

/-- RES 2,C (R239). -/
def execRes_2_C (s : State) : Result := .next (resOperand .n2 (.reg .c) s)

/-- RES 2,D (R239). -/
def execRes_2_D (s : State) : Result := .next (resOperand .n2 (.reg .d) s)

/-- RES 2,E (R239). -/
def execRes_2_E (s : State) : Result := .next (resOperand .n2 (.reg .e) s)

/-- RES 2,H (R239). -/
def execRes_2_H (s : State) : Result := .next (resOperand .n2 (.reg .h) s)

/-- RES 2,L (R239). -/
def execRes_2_L (s : State) : Result := .next (resOperand .n2 (.reg .l) s)

/-- RES 2,(HL) (R239). -/
def execRes_2_atHL (s : State) : Result := .next (resOperand .n2 .atHL s)

/-- RES 2,A (R239). -/
def execRes_2_A (s : State) : Result := .next (resOperand .n2 (.reg .a) s)

/-- RES 3,B (R239). -/
def execRes_3_B (s : State) : Result := .next (resOperand .n3 (.reg .b) s)

/-- RES 3,C (R239). -/
def execRes_3_C (s : State) : Result := .next (resOperand .n3 (.reg .c) s)

/-- RES 3,D (R239). -/
def execRes_3_D (s : State) : Result := .next (resOperand .n3 (.reg .d) s)

/-- RES 3,E (R239). -/
def execRes_3_E (s : State) : Result := .next (resOperand .n3 (.reg .e) s)

/-- RES 3,H (R239). -/
def execRes_3_H (s : State) : Result := .next (resOperand .n3 (.reg .h) s)

/-- RES 3,L (R239). -/
def execRes_3_L (s : State) : Result := .next (resOperand .n3 (.reg .l) s)

/-- RES 3,(HL) (R239). -/
def execRes_3_atHL (s : State) : Result := .next (resOperand .n3 .atHL s)

/-- RES 3,A (R239). -/
def execRes_3_A (s : State) : Result := .next (resOperand .n3 (.reg .a) s)

/-- RES 4,B (R239). -/
def execRes_4_B (s : State) : Result := .next (resOperand .n4 (.reg .b) s)

/-- RES 4,C (R239). -/
def execRes_4_C (s : State) : Result := .next (resOperand .n4 (.reg .c) s)

/-- RES 4,D (R239). -/
def execRes_4_D (s : State) : Result := .next (resOperand .n4 (.reg .d) s)

/-- RES 4,E (R239). -/
def execRes_4_E (s : State) : Result := .next (resOperand .n4 (.reg .e) s)

/-- RES 4,H (R239). -/
def execRes_4_H (s : State) : Result := .next (resOperand .n4 (.reg .h) s)

/-- RES 4,L (R239). -/
def execRes_4_L (s : State) : Result := .next (resOperand .n4 (.reg .l) s)

/-- RES 4,(HL) (R239). -/
def execRes_4_atHL (s : State) : Result := .next (resOperand .n4 .atHL s)

/-- RES 4,A (R239). -/
def execRes_4_A (s : State) : Result := .next (resOperand .n4 (.reg .a) s)

/-- RES 5,B (R239). -/
def execRes_5_B (s : State) : Result := .next (resOperand .n5 (.reg .b) s)

/-- RES 5,C (R239). -/
def execRes_5_C (s : State) : Result := .next (resOperand .n5 (.reg .c) s)

/-- RES 5,D (R239). -/
def execRes_5_D (s : State) : Result := .next (resOperand .n5 (.reg .d) s)

/-- RES 5,E (R239). -/
def execRes_5_E (s : State) : Result := .next (resOperand .n5 (.reg .e) s)

/-- RES 5,H (R239). -/
def execRes_5_H (s : State) : Result := .next (resOperand .n5 (.reg .h) s)

/-- RES 5,L (R239). -/
def execRes_5_L (s : State) : Result := .next (resOperand .n5 (.reg .l) s)

/-- RES 5,(HL) (R239). -/
def execRes_5_atHL (s : State) : Result := .next (resOperand .n5 .atHL s)

/-- RES 5,A (R239). -/
def execRes_5_A (s : State) : Result := .next (resOperand .n5 (.reg .a) s)

/-- RES 6,B (R239). -/
def execRes_6_B (s : State) : Result := .next (resOperand .n6 (.reg .b) s)

/-- RES 6,C (R239). -/
def execRes_6_C (s : State) : Result := .next (resOperand .n6 (.reg .c) s)

/-- RES 6,D (R239). -/
def execRes_6_D (s : State) : Result := .next (resOperand .n6 (.reg .d) s)

/-- RES 6,E (R239). -/
def execRes_6_E (s : State) : Result := .next (resOperand .n6 (.reg .e) s)

/-- RES 6,H (R239). -/
def execRes_6_H (s : State) : Result := .next (resOperand .n6 (.reg .h) s)

/-- RES 6,L (R239). -/
def execRes_6_L (s : State) : Result := .next (resOperand .n6 (.reg .l) s)

/-- RES 6,(HL) (R239). -/
def execRes_6_atHL (s : State) : Result := .next (resOperand .n6 .atHL s)

/-- RES 6,A (R239). -/
def execRes_6_A (s : State) : Result := .next (resOperand .n6 (.reg .a) s)

/-- RES 7,B (R239). -/
def execRes_7_B (s : State) : Result := .next (resOperand .n7 (.reg .b) s)

/-- RES 7,C (R239). -/
def execRes_7_C (s : State) : Result := .next (resOperand .n7 (.reg .c) s)

/-- RES 7,D (R239). -/
def execRes_7_D (s : State) : Result := .next (resOperand .n7 (.reg .d) s)

/-- RES 7,E (R239). -/
def execRes_7_E (s : State) : Result := .next (resOperand .n7 (.reg .e) s)

/-- RES 7,H (R239). -/
def execRes_7_H (s : State) : Result := .next (resOperand .n7 (.reg .h) s)

/-- RES 7,L (R239). -/
def execRes_7_L (s : State) : Result := .next (resOperand .n7 (.reg .l) s)

/-- RES 7,(HL) (R239). -/
def execRes_7_atHL (s : State) : Result := .next (resOperand .n7 .atHL s)

/-- RES 7,A (R239). -/
def execRes_7_A (s : State) : Result := .next (resOperand .n7 (.reg .a) s)

/-- SET 0,B (R240). -/
def execSet_0_B (s : State) : Result := .next (setOperand .n0 (.reg .b) s)

/-- SET 0,C (R240). -/
def execSet_0_C (s : State) : Result := .next (setOperand .n0 (.reg .c) s)

/-- SET 0,D (R240). -/
def execSet_0_D (s : State) : Result := .next (setOperand .n0 (.reg .d) s)

/-- SET 0,E (R240). -/
def execSet_0_E (s : State) : Result := .next (setOperand .n0 (.reg .e) s)

/-- SET 0,H (R240). -/
def execSet_0_H (s : State) : Result := .next (setOperand .n0 (.reg .h) s)

/-- SET 0,L (R240). -/
def execSet_0_L (s : State) : Result := .next (setOperand .n0 (.reg .l) s)

/-- SET 0,(HL) (R240). -/
def execSet_0_atHL (s : State) : Result := .next (setOperand .n0 .atHL s)

/-- SET 0,A (R240). -/
def execSet_0_A (s : State) : Result := .next (setOperand .n0 (.reg .a) s)

/-- SET 1,B (R240). -/
def execSet_1_B (s : State) : Result := .next (setOperand .n1 (.reg .b) s)

/-- SET 1,C (R240). -/
def execSet_1_C (s : State) : Result := .next (setOperand .n1 (.reg .c) s)

/-- SET 1,D (R240). -/
def execSet_1_D (s : State) : Result := .next (setOperand .n1 (.reg .d) s)

/-- SET 1,E (R240). -/
def execSet_1_E (s : State) : Result := .next (setOperand .n1 (.reg .e) s)

/-- SET 1,H (R240). -/
def execSet_1_H (s : State) : Result := .next (setOperand .n1 (.reg .h) s)

/-- SET 1,L (R240). -/
def execSet_1_L (s : State) : Result := .next (setOperand .n1 (.reg .l) s)

/-- SET 1,(HL) (R240). -/
def execSet_1_atHL (s : State) : Result := .next (setOperand .n1 .atHL s)

/-- SET 1,A (R240). -/
def execSet_1_A (s : State) : Result := .next (setOperand .n1 (.reg .a) s)

/-- SET 2,B (R240). -/
def execSet_2_B (s : State) : Result := .next (setOperand .n2 (.reg .b) s)

/-- SET 2,C (R240). -/
def execSet_2_C (s : State) : Result := .next (setOperand .n2 (.reg .c) s)

/-- SET 2,D (R240). -/
def execSet_2_D (s : State) : Result := .next (setOperand .n2 (.reg .d) s)

/-- SET 2,E (R240). -/
def execSet_2_E (s : State) : Result := .next (setOperand .n2 (.reg .e) s)

/-- SET 2,H (R240). -/
def execSet_2_H (s : State) : Result := .next (setOperand .n2 (.reg .h) s)

/-- SET 2,L (R240). -/
def execSet_2_L (s : State) : Result := .next (setOperand .n2 (.reg .l) s)

/-- SET 2,(HL) (R240). -/
def execSet_2_atHL (s : State) : Result := .next (setOperand .n2 .atHL s)

/-- SET 2,A (R240). -/
def execSet_2_A (s : State) : Result := .next (setOperand .n2 (.reg .a) s)

/-- SET 3,B (R240). -/
def execSet_3_B (s : State) : Result := .next (setOperand .n3 (.reg .b) s)

/-- SET 3,C (R240). -/
def execSet_3_C (s : State) : Result := .next (setOperand .n3 (.reg .c) s)

/-- SET 3,D (R240). -/
def execSet_3_D (s : State) : Result := .next (setOperand .n3 (.reg .d) s)

/-- SET 3,E (R240). -/
def execSet_3_E (s : State) : Result := .next (setOperand .n3 (.reg .e) s)

/-- SET 3,H (R240). -/
def execSet_3_H (s : State) : Result := .next (setOperand .n3 (.reg .h) s)

/-- SET 3,L (R240). -/
def execSet_3_L (s : State) : Result := .next (setOperand .n3 (.reg .l) s)

/-- SET 3,(HL) (R240). -/
def execSet_3_atHL (s : State) : Result := .next (setOperand .n3 .atHL s)

/-- SET 3,A (R240). -/
def execSet_3_A (s : State) : Result := .next (setOperand .n3 (.reg .a) s)

/-- SET 4,B (R240). -/
def execSet_4_B (s : State) : Result := .next (setOperand .n4 (.reg .b) s)

/-- SET 4,C (R240). -/
def execSet_4_C (s : State) : Result := .next (setOperand .n4 (.reg .c) s)

/-- SET 4,D (R240). -/
def execSet_4_D (s : State) : Result := .next (setOperand .n4 (.reg .d) s)

/-- SET 4,E (R240). -/
def execSet_4_E (s : State) : Result := .next (setOperand .n4 (.reg .e) s)

/-- SET 4,H (R240). -/
def execSet_4_H (s : State) : Result := .next (setOperand .n4 (.reg .h) s)

/-- SET 4,L (R240). -/
def execSet_4_L (s : State) : Result := .next (setOperand .n4 (.reg .l) s)

/-- SET 4,(HL) (R240). -/
def execSet_4_atHL (s : State) : Result := .next (setOperand .n4 .atHL s)

/-- SET 4,A (R240). -/
def execSet_4_A (s : State) : Result := .next (setOperand .n4 (.reg .a) s)

/-- SET 5,B (R240). -/
def execSet_5_B (s : State) : Result := .next (setOperand .n5 (.reg .b) s)

/-- SET 5,C (R240). -/
def execSet_5_C (s : State) : Result := .next (setOperand .n5 (.reg .c) s)

/-- SET 5,D (R240). -/
def execSet_5_D (s : State) : Result := .next (setOperand .n5 (.reg .d) s)

/-- SET 5,E (R240). -/
def execSet_5_E (s : State) : Result := .next (setOperand .n5 (.reg .e) s)

/-- SET 5,H (R240). -/
def execSet_5_H (s : State) : Result := .next (setOperand .n5 (.reg .h) s)

/-- SET 5,L (R240). -/
def execSet_5_L (s : State) : Result := .next (setOperand .n5 (.reg .l) s)

/-- SET 5,(HL) (R240). -/
def execSet_5_atHL (s : State) : Result := .next (setOperand .n5 .atHL s)

/-- SET 5,A (R240). -/
def execSet_5_A (s : State) : Result := .next (setOperand .n5 (.reg .a) s)

/-- SET 6,B (R240). -/
def execSet_6_B (s : State) : Result := .next (setOperand .n6 (.reg .b) s)

/-- SET 6,C (R240). -/
def execSet_6_C (s : State) : Result := .next (setOperand .n6 (.reg .c) s)

/-- SET 6,D (R240). -/
def execSet_6_D (s : State) : Result := .next (setOperand .n6 (.reg .d) s)

/-- SET 6,E (R240). -/
def execSet_6_E (s : State) : Result := .next (setOperand .n6 (.reg .e) s)

/-- SET 6,H (R240). -/
def execSet_6_H (s : State) : Result := .next (setOperand .n6 (.reg .h) s)

/-- SET 6,L (R240). -/
def execSet_6_L (s : State) : Result := .next (setOperand .n6 (.reg .l) s)

/-- SET 6,(HL) (R240). -/
def execSet_6_atHL (s : State) : Result := .next (setOperand .n6 .atHL s)

/-- SET 6,A (R240). -/
def execSet_6_A (s : State) : Result := .next (setOperand .n6 (.reg .a) s)

/-- SET 7,B (R240). -/
def execSet_7_B (s : State) : Result := .next (setOperand .n7 (.reg .b) s)

/-- SET 7,C (R240). -/
def execSet_7_C (s : State) : Result := .next (setOperand .n7 (.reg .c) s)

/-- SET 7,D (R240). -/
def execSet_7_D (s : State) : Result := .next (setOperand .n7 (.reg .d) s)

/-- SET 7,E (R240). -/
def execSet_7_E (s : State) : Result := .next (setOperand .n7 (.reg .e) s)

/-- SET 7,H (R240). -/
def execSet_7_H (s : State) : Result := .next (setOperand .n7 (.reg .h) s)

/-- SET 7,L (R240). -/
def execSet_7_L (s : State) : Result := .next (setOperand .n7 (.reg .l) s)

/-- SET 7,(HL) (R240). -/
def execSet_7_atHL (s : State) : Result := .next (setOperand .n7 .atHL s)

/-- SET 7,A (R240). -/
def execSet_7_A (s : State) : Result := .next (setOperand .n7 (.reg .a) s)

end Sys2Proof.Machine
end

