-- ==== Sys2Proof/Machine/System.lean ====
section
/-! DEFINITION. The system and control instructions (45_system.md R275 to R280). -/

namespace Sys2Proof.Machine

/-! ## The shared operations -/

/-- NOP (R275): nothing beyond the fetch. -/
def nopStep (s : State) : State := s

/-- HALT and STOP (R276, R277; D25). -/
def haltStep (s : State) : State := { s with halted := true }

/-- DI (R278). -/
def disableInterrupts (s : State) : State := { s with ime := false }

/-- EI (R279): at once, with no delay (10_state.md R39; D24). -/
def enableInterrupts (s : State) : State := { s with ime := true }

/-- An illegal slot (R280): Fatal, a next state that carries the fault mark. -/
def illegal (opcode : Byte) (s : State) : State := s.raiseFatal opcode

/-! ## The instructions, one definition each -/

/-- NOP (R275). -/
def execNop (s : State) : Result := .next (nopStep s)

/-- STOP (R277). -/
def execStop (_ignored : Byte) (s : State) : Result := .next (haltStep s)

/-- HALT (R276). -/
def execHalt (s : State) : Result := .next (haltStep s)

/-- ILLEGAL_D3 (R280). -/
def execIllegal_D3 (s : State) : Result := .next (illegal 0xD3 s)

/-- ILLEGAL_DB (R280). -/
def execIllegal_DB (s : State) : Result := .next (illegal 0xDB s)

/-- ILLEGAL_DD (R280). -/
def execIllegal_DD (s : State) : Result := .next (illegal 0xDD s)

/-- ILLEGAL_E3 (R280). -/
def execIllegal_E3 (s : State) : Result := .next (illegal 0xE3 s)

/-- ILLEGAL_E4 (R280). -/
def execIllegal_E4 (s : State) : Result := .next (illegal 0xE4 s)

/-- ILLEGAL_EB (R280). -/
def execIllegal_EB (s : State) : Result := .next (illegal 0xEB s)

/-- ILLEGAL_EC (R280). -/
def execIllegal_EC (s : State) : Result := .next (illegal 0xEC s)

/-- ILLEGAL_ED (R280). -/
def execIllegal_ED (s : State) : Result := .next (illegal 0xED s)

/-- DI (R278). -/
def execDi (s : State) : Result := .next (disableInterrupts s)

/-- ILLEGAL_F4 (R280). -/
def execIllegal_F4 (s : State) : Result := .next (illegal 0xF4 s)

/-- EI (R279). -/
def execEi (s : State) : Result := .next (enableInterrupts s)

/-- ILLEGAL_FC (R280). -/
def execIllegal_FC (s : State) : Result := .next (illegal 0xFC s)

/-- ILLEGAL_FD (R280). -/
def execIllegal_FD (s : State) : Result := .next (illegal 0xFD s)

end Sys2Proof.Machine
end

