-- ==== Sys2Proof/Machine/Display.lean ====
section
/-! DEFINITION. The display controller: the timing state machine (60_exceptions.md R343 to R350) and the compositing
pipeline (R354 to R363). -/

namespace Sys2Proof.Machine

/-! ## Frames -/

/-- The entry at line `y`, column `x`; 0 outside the frame, where no run reads (DESIGN CHOICE, log entry 11). -/
def Frame.get (f : Frame) (y x : Nat) : Shade := if h : y < 144 ∧ x < 160 then (f[y]'h.1)[x]'h.2 else 0

/-- Replace the entry at line `y`, column `x`. -/
def Frame.set (f : Frame) (y x : Nat) (v : Shade) : Frame :=
  if h : y < 144 ∧ x < 160 then Vector.set f y (Vector.set (f[y]'h.1) x v h.2) h.1 else f

/-- Replace line `y`. -/
def Frame.setLine (f : Frame) (y : Nat) (line : Nat → Shade) : Frame :=
  if h : y < 144 then Vector.set f y (Vector.ofFn fun x => line x.val) h else f

/-! ## Tiles and palettes -/

/-- `shade(pal, p)` (R358). -/
def shade (pal : Byte) (p : Shade) : Shade := (pal >>> (2 * p.toNat)).setWidth 2

/-- The colour index that bit `n` of a tile row's two bytes make: `b1` is the high plane (R354; D33). -/
def planes (b0 b1 : Byte) (n : Nat) : Shade := (if bit b1 n then 2 else 0) ||| (if bit b0 n then 1 else 0)

/-- Pixel `col` (0 at the left) of row `row` of the tile at address `tile` (R354). -/
def State.tilePixel (s : State) (tile row col : Nat) : Shade :=
  planes (s.busRead (BitVec.ofNat 16 (tile + 2 * row))) (s.busRead (BitVec.ofNat 16 (tile + 2 * row + 1))) (7 - col)

/-! ## The background (R355) -/

/-- The tile-map base LCDC[3] selects. -/
def Display.mapBase (d : Display) : Nat := if bit d.lcdc 3 then 0x9C00 else 0x9800

/-- The address of tile `idx` in the block LCDC[4] selects. -/
def Display.tileBase (d : Display) (idx : Nat) : Nat :=
  if bit d.lcdc 4 then 0x8000 + idx * 16 else 0x8800 + ((idx + 128) % 256) * 16

/-- The raw colour index of a background pixel. -/
def State.bgColour (s : State) (line col : Nat) : Shade :=
  let x := (s.lcd.scx.toNat + col) % 256
  let y := (s.lcd.scy.toNat + line) % 256
  let idx := (s.busRead (BitVec.ofNat 16 (s.lcd.mapBase + (y / 8) * 32 + x / 8))).toNat
  s.tilePixel (s.lcd.tileBase idx) (y % 8) (x % 8)

/-- `render_bg_line(line)`. -/
def State.renderBgLine (s : State) (line : Nat) : State :=
  { s with
    lcd :=
      { s.lcd with
        bgi := s.lcd.bgi.setLine line (s.bgColour line)
        fb := s.lcd.fb.setLine line (fun col => shade s.lcd.bgp (s.bgColour line col)) } }

/-! ## The sprites (R359 to R363) -/

/-- An OAM entry (R359; D34). -/
structure OamEntry where
  posY : Nat
  posX : Nat
  tile : Nat
  priority : Bool
  flipY : Bool
  flipX : Bool
  palette : Bool
  deriving DecidableEq, Repr

/-- Entry `i`, the 4 bytes at 0xFE00 + 4i (R359). -/
def State.oamEntry (s : State) (i : Nat) : OamEntry :=
  let byte (k : Nat) : Byte := s.busRead (BitVec.ofNat 16 (0xFE00 + 4 * i + k))
  { posY := (byte 0).toNat
    posX := (byte 1).toNat
    tile := (byte 2).toNat
    priority := bit (byte 3) 7
    flipY := bit (byte 3) 6
    flipX := bit (byte 3) 5
    palette := bit (byte 3) 4 }

/-- The off-screen skip (R360). -/
def OamEntry.skipped (e : OamEntry) : Bool :=
  decide (e.posX = 0) || decide (e.posX ≥ 168) || decide (e.posY = 0) || decide (e.posY ≥ 160)

/-- The sprite height LCDC[2] selects (R361). -/
def Display.spriteHeight (d : Display) : Nat := if bit d.lcdc 2 then 16 else 8

/-- The colour index of a sprite's pixel, after the flips (R361, R363). -/
def State.spriteColour (s : State) (e : OamEntry) (row col : Nat) : Shade :=
  let ty := if e.flipY then s.lcd.spriteHeight - 1 - row else row
  let tx := if e.flipX then 7 - col else col
  s.tilePixel (0x8000 + e.tile * 16) ty tx

/-- Draw one pixel of a sprite: colour 0 is transparent (D35), the rest must lie on the screen, and a sprite with
priority hides behind background colours 1 to 3 (D36). -/
def State.drawSpritePixel (s : State) (e : OamEntry) (row col : Nat) (fb : Frame) : Frame :=
  let c := s.spriteColour e row col
  let x : Int := (e.posX : Int) - 8 + col
  let y : Int := (e.posY : Int) - 16 + row
  if c = 0 then fb
  else if ¬(0 ≤ x ∧ x < 160 ∧ 0 ≤ y ∧ y < 144) then fb
  else if e.priority ∧ s.lcd.bgi.get y.toNat x.toNat ≠ 0 then fb
  else fb.set y.toNat x.toNat (shade (if e.palette then s.lcd.obp1 else s.lcd.obp0) c)

/-- Draw one OAM entry, row by row and column by column. -/
def State.drawSprite (s : State) (fb : Frame) (i : Nat) : Frame :=
  let e := s.oamEntry i
  if e.skipped then fb
  else
    (List.range s.lcd.spriteHeight).foldl
      (fun fb row => (List.range 8).foldl (fun fb col => s.drawSpritePixel e row col fb) fb) fb

/-- `render_sprites()`: the 40 entries in ascending order (R361, R362). -/
def State.renderSprites (s : State) : State :=
  { s with lcd := { s.lcd with fb := (List.range 40).foldl s.drawSprite s.lcd.fb } }

/-! ## The timing state machine -/

/-- A mode's STAT[1:0] encoding (R344). -/
def Mode.code : Mode → Byte
  | .oam => 0b10
  | .vram => 0b11
  | .hblank => 0b00
  | .vblank => 0b01

/-- A mode's budget in cycles (R344). -/
def Mode.budget : Mode → Nat
  | .oam => 80
  | .vram => 172
  | .hblank => 204
  | .vblank => 456

/-- `set_mode(m)` (R346): STAT[7:2] is unchanged. -/
def State.setMode (s : State) (m : Mode) : State :=
  { s with lcd := { s.lcd with mode := m, stat := (s.lcd.stat &&& 0xFC) ||| m.code } }

def State.setLy (s : State) (v : Byte) : State := { s with lcd := { s.lcd with ly := v } }

/-- The coincidence status bit, STAT[2] (R347). -/
def State.setCoincidence (s : State) (b : Bool) : State :=
  { s with lcd := { s.lcd with stat := (s.lcd.stat &&& 0xFB) ||| (if b then 0x04 else 0x00) } }

/-- The output event `paint(FB)` (00_scope.md R12). -/
def State.paint (s : State) : State :=
  { s with sink := { paints := s.sink.paints + 1, lastFrame := some s.lcd.fb } }

/-- End of OAM (R345). -/
def State.endOfOam (s : State) : State := s.setMode .vram

/-- End of VRAM (R347). -/
def State.endOfVram (s : State) : State :=
  let s := if bit s.lcd.stat 3 then s.request .lcdStat else s
  let s := s.setCoincidence (s.lcd.ly == s.lcd.lyc)
  let s := if bit s.lcd.stat 6 && s.lcd.ly == s.lcd.lyc then s.request .lcdStat else s
  s.setMode .hblank

/-- End of HBLANK (R348). -/
def State.endOfHblank (s : State) : State :=
  let s := s.renderBgLine s.lcd.ly.toNat
  let s := s.setLy (s.lcd.ly + 1)
  if s.lcd.ly.toNat < 144 then s.setMode .oam else (s.request .vblank).setMode .vblank

/-- End of the frame (R350). -/
def State.endOfFrame (s : State) : State := (s.renderSprites.paint.setLy 0).setMode .oam

/-- End of a VBLANK line (R349). -/
def State.endOfVblank (s : State) : State :=
  let s := s.setLy (s.lcd.ly + 1)
  if s.lcd.ly = 154 then s.endOfFrame else s.setMode .vblank

/-- The transition at the end of a phase (R343). -/
def State.endOfPhase (s : State) : State :=
  match s.lcd.mode with
  | .oam => s.endOfOam
  | .vram => s.endOfVram
  | .hblank => s.endOfHblank
  | .vblank => s.endOfVblank

def State.setAcc (s : State) (n : Nat) : State := { s with lcd := { s.lcd with acc := n } }

/-- The loop of `disp_tick` (R343), at most `fuel` passes; each pass takes at least 80 cycles off the accumulator
(DEDUCED, log entry 9). -/
def dispLoop : Nat → State → State
  | 0, s => s
  | fuel + 1, s =>
    if s.lcd.mode.budget ≤ s.lcd.acc then dispLoop fuel (s.setAcc (s.lcd.acc - s.lcd.mode.budget)).endOfPhase else s

/-- `disp_tick(cycles)` (R343). -/
def State.dispTick (s : State) (cycles : Nat) : State :=
  let s := s.setAcc (s.lcd.acc + cycles)
  dispLoop s.lcd.acc s

end Sys2Proof.Machine
end

