-- ==== Sys2Proof/Machine/Processor.lean ====
section
/-! DEFINITION. The processor step (60_exceptions.md R300, R317), the system step (R370), and placing an instruction
where the next step fetches it. -/

namespace Sys2Proof.Machine

/-! ## Fetch -/

/-- The instruction at PC (30_encoding.md R111). All its bytes are read before anything is written (20_memory.md R98),
and a read changes nothing (R71), so they are read at once; the bytes past the instruction's length are not used
(DEDUCED, log entry 8). -/
def State.fetched (s : State) : Instr :=
  decode (s.busRead s.regs.pc) (s.busRead (s.regs.pc + 1)) (s.busRead (s.regs.pc + 2))

/-- The state an instruction runs in (R111, 10_state.md R37, R44): branch_taken is clear and PC is past the
instruction. -/
def State.afterFetch (s : State) (i : Instr) : State :=
  { s with
    regs := { s.regs with pc := s.regs.pc + BitVec.ofNat 16 i.length }
    branchTaken := false
    ctrl := s.ctrl.nextDraw }

/-! ## The processor step -/

/-- Execute one instruction; the cost is absent when Fatal was raised (R280, R370). -/
def executeOne (s : State) : Host.Outcome (State × Option Nat) Fault Refusal :=
  let i := s.fetched
  match exec i (s.afterFetch i) with
  | .next t => .next (t, if t.fault.isSome then none else some (cost i t.branchTaken))
  | .fault r => .fault r
  | .refused r => .refused r

/-- `cpu_tick()` (R300): idle, service one interrupt, or execute one instruction; with the cost it returns. -/
def cpuTick (s : State) : Host.Outcome (State × Option Nat) Fault Refusal :=
  if s.halted && s.pending == 0 then .next (s, some haltIdleCycles)
  else
    let awake := { s with halted := false }
    match (if s.ime then selectKind s.pending else none) with
    | some k => .next (awake.service k, some intServiceCycles)
    | none => executeOne awake

/-- The display step and the controller hook after a processor step of the given cost (R370). -/
def State.afterCpu (s : State) (cycles : Nat) : State :=
  let s := s.dispTick cycles
  { s with ctrl := s.ctrl.tick }

/-- `sys_step` (R370): a faulted state is unchanged (R304), and no display step follows a Fatal. -/
def sysStep (s : State) : Host.Outcome State Fault Refusal :=
  if s.fault.isSome then .next s
  else
    match cpuTick s with
    | .next (t, some cycles) => .next (t.afterCpu cycles)
    | .next (t, none) => .next t
    | .fault r => .fault r
    | .refused r => .refused r

/-! ## Placing an instruction for the next fetch (log entry 7) -/

/-- The address holds stored bytes of a kind that can be placed: plain storage, a mapped boot ROM, or a flat
cartridge. -/
def State.placeable (s : State) (a : Word) : Bool :=
  let flat := match s.cart with
    | .flat _ => true
    | .external _ => false
  match regionOf a with
  | .cartRom => flat
  | .bootWindow => !s.bootDisabled || flat
  | _ => (plainCell a).isSome

/-- Place a byte where a bus read of `a` finds it. -/
def State.placeByte (s : State) (a : Word) (v : Byte) : State :=
  let inCart := match s.cart with
    | .flat image => { s with cart := .flat (image.write a.toNat v) }
    | .external _ => s
  match regionOf a with
  | .cartRom => inCart
  | .bootWindow => if s.bootDisabled then inCart else { s with bootRom := s.bootRom.write a.toNat v }
  | _ =>
    match plainCell a with
    | some k => s.setCell k v
    | none => s

/-- Nothing keeps the next step from fetching: no fault mark, not halted, and no interrupt to service. -/
def State.readyToFetch (s : State) : State :=
  { s with fault := none, halted := false, ime := s.ime && s.pending == 0 }

/-- Place three bytes at PC; where PC's bytes cannot be placed (a device register, an absent range, an external
cartridge), PC moves to work RAM first. -/
def placeInstruction (bytes : Byte × Byte × Byte) (s : State) : State :=
  let s := s.readyToFetch
  let pc := s.regs.pc
  let s := if s.placeable pc && s.placeable (pc + 1) && s.placeable (pc + 2) then s else s.setPc 0xC000
  let pc := s.regs.pc
  ((s.placeByte pc bytes.1).placeByte (pc + 1) bytes.2.1).placeByte (pc + 2) bytes.2.2

end Sys2Proof.Machine
end

