-- ==== Sys2Proof/Machine/Step.lean ====
section
/-! DEFINITION. One step of the machine is one system step (60_exceptions.md R370, 00_scope.md R7, R8). -/

namespace Sys2Proof.Machine

/-- One system step. -/
def step (s : State) : Host.Outcome State Fault Refusal := sysStep s

/-- `s` with a table word's instruction stored where the next step fetches it (log entry 7). At reset that is the boot
ROM, which the host supplies from outside the machine (00_scope.md R16, 70_reset_and_hazards.md R381). -/
def State.withFetchWord (s : State) (nbits w : Nat) : State := placeInstruction (tableBytes nbits w) s

end Sys2Proof.Machine
end

