-- ==== Sys2Proof/WellFormed.lean ====
section
/-! DEFINITION. Well-formedness of what is given to the machine from outside.

EVERY TERM of `Instr` is a well-formed instruction: each operand is a bit vector of exactly the width its encoding has
(30_encoding.md R112, R115), and each register, pair, condition and bit number is part of the constructor. So there is
no check on an instruction. The checks here are on the open parameters of 00_scope.md R16: a boot ROM and a flat
cartridge as lists of cells, the initial memory, and a reset F. -/

namespace Sys2Proof.WellFormed

open Sys2Proof.Machine

/-- A boot ROM is a canonical list of cells of the window 0x0000-0x00FF (10_state.md R48). -/
def bootRom (m : Memory) : Bool := Memory.canonical 0x100 0 m

/-- A flat cartridge's image is a canonical list of cells of 0x0000-0x7FFF (20_memory.md R72 entries 16 and 17). -/
def cartridge : Cartridge → Bool
  | .flat image => Memory.canonical 0x8000 0 image
  | .external _ => true

/-- The initial memory is canonical (10_state.md R46). -/
def initMem (m : Memory) : Bool := Memory.wf m

/-- RESET_REGS has F[3:0] = 0 (00_scope.md R16). -/
def resetRegs (r : Regs) : Bool := r.f &&& 0x0F == 0x00

/-- The open parameters are well formed. -/
def params (p : ResetParams) : Bool := bootRom p.bootRom && cartridge p.cart && initMem p.initMem && resetRegs p.regs

end Sys2Proof.WellFormed
end

