-- ==== Sys2Proof/Safety.lean ====
section
/-! DEFINITION. What claims call a good state: the machine's invariant, a faulted state, a final state, and the launch
premise of the spec's programs. -/

namespace Sys2Proof.Machine

/-- What holds at reset and after every step. -/
structure Inv (s : State) : Prop where
  /-- MEM is in its canonical form. -/
  memory : s.mem.wf = true
  /-- The boot ROM is a canonical image of its window (10_state.md R48). -/
  bootRom : WellFormed.bootRom s.bootRom = true
  /-- A flat cartridge is a canonical image of its window. -/
  cartridge : WellFormed.cartridge s.cart = true
  /-- "Invariant: bits 0–3 of F are always zero" (10_state.md R35). -/
  flagsLow : s.regs.f &&& 0x0F = 0
  /-- STAT[1:0] is the encoding of `mode` (R57). -/
  statMode : s.lcd.stat &&& 0x03 = s.lcd.mode.code
  /-- `acc` is less than the budget of the current mode (R57). -/
  accBound : s.lcd.acc < s.lcd.mode.budget
  /-- LY is 0..143 outside VBLANK (R53, R348). -/
  visibleLine : s.lcd.mode ≠ .vblank → s.lcd.ly.toNat < 144
  /-- LY is 144..153 in VBLANK (R349). -/
  vblankLine : s.lcd.mode = .vblank → 144 ≤ s.lcd.ly.toNat ∧ s.lcd.ly.toNat ≤ 153

/-- A faulted state (60_exceptions.md R304). -/
def State.faulted (s : State) : Bool := s.fault.isSome

/-- A final state, the successful end of a run (60_exceptions.md R374; D48). -/
def State.final (s : State) : Bool := !s.faulted && s.halted && s.ie &&& 0x1F == 0

/-- The launch premise CART_LAUNCH (70_reset_and_hazards.md R383; D49), for a program in a flat cartridge at 0x0100. -/
def State.cartLaunch (p : ResetParams) (program : List Byte) : State :=
  let s := State.resetWith p
  { s with
    regs := { a := 0, f := 0, b := 0, c := 0, d := 0, e := 0, h := 0, l := 0, sp := 0xFFFE, pc := 0x0100 }
    mem := s.mem.write 0xFF50 0x01
    cart := .flat (Memory.writeList [] 0x0100 program) }

end Sys2Proof.Machine
end

