-- ==== Sys2Proof/Certificates/Slice0/Obligations.lean ====
section
/-! DEFINITION. The statements for the provers, and the vocabulary they are written in. The vocabulary follows the
spec's own words, not the model's definitions, so that a statement can be held beside its rule. -/

namespace Sys2Proof.Claims

open Sys2Proof.Machine

/-! ## Encodings (30_encoding.md R113) -/

/-- The r8 column, for a register. -/
def reg8Code : Reg8 → BitVec 3
  | .b => 0
  | .c => 1
  | .d => 2
  | .e => 3
  | .h => 4
  | .l => 5
  | .a => 7

/-- The r8 column. -/
def operandCode : Operand8 → BitVec 3
  | .reg r => reg8Code r
  | .atHL => 6

/-- The rp column. -/
def pairCode : Pair → BitVec 2
  | .bc => 0
  | .de => 1
  | .hl => 2
  | .sp => 3

/-- The rp2 column. -/
def stackPairCode : StackPair → BitVec 2
  | .bc => 0
  | .de => 1
  | .hl => 2
  | .af => 3

/-- The cc column. -/
def condCode : Cond → BitVec 2
  | .nz => 0
  | .z => 1
  | .nc => 2
  | .c => 3

/-- The alu column. -/
def aluCode : AluOp → BitVec 3
  | .add => 0
  | .adc => 1
  | .sub => 2
  | .sbc => 3
  | .and => 4
  | .xor => 5
  | .or => 6
  | .cp => 7

/-- The rot column. -/
def rotCode : RotOp → BitVec 3
  | .rlc => 0
  | .rrc => 1
  | .rl => 2
  | .rr => 3
  | .sla => 4
  | .sra => 5
  | .swap => 6
  | .srl => 7

/-- A 3-bit field's value. -/
def fieldCode (y : Field3) : BitVec 3 := BitVec.ofNat 3 y.toNat

/-- The eleven illegal slots (R117). -/
def illegalSlots : List (Instr × Byte) :=
  [(.illegal_D3, 0xD3), (.illegal_DB, 0xDB), (.illegal_DD, 0xDD), (.illegal_E3, 0xE3), (.illegal_E4, 0xE4),
    (.illegal_EB, 0xEB), (.illegal_EC, 0xEC), (.illegal_ED, 0xED), (.illegal_F4, 0xF4), (.illegal_FC, 0xFC),
    (.illegal_FD, 0xFD)]

/-! ## Bytes, flags and operands -/

def highByte (v : Word) : Byte := v.extractLsb' 8 8

def lowByte (v : Word) : Byte := v.extractLsb' 0 8

/-- F, from its four flags (10_state.md R34): Z, N, H and C in bits 7 to 4, and four zero bits. -/
def flagByte (z n h c : Bool) : Byte :=
  BitVec.ofBool z ++ BitVec.ofBool n ++ BitVec.ofBool h ++ BitVec.ofBool c ++ 0#4

def zero (s : State) : Bool := s.regs.f.getLsbD 7

def subtract (s : State) : Bool := s.regs.f.getLsbD 6

def halfCarry (s : State) : Bool := s.regs.f.getLsbD 5

def carry (s : State) : Bool := s.regs.f.getLsbD 4

/-- `cond(cc)` (00_scope.md R29). -/
def holds (cc : Cond) (s : State) : Bool :=
  match cc with
  | .nz => !zero s
  | .z => zero s
  | .nc => !carry s
  | .c => carry s

/-- `r16[HL]`. -/
def hl (s : State) : Word := s.regs.h ++ s.regs.l

/-- `read_r8(c)` (30_encoding.md R114). -/
def operand (s : State) : Operand8 → Byte
  | .reg r => s.regs.get8 r
  | .atHL => s.busRead (hl s)

/-- `write_r8(c, v)` (R114). -/
def putOperand (s : State) (o : Operand8) (v : Byte) : State :=
  match o with
  | .reg r => { s with regs := s.regs.set8 r v }
  | .atHL => s.busWrite (hl s) v

def withF (s : State) (f : Byte) : State := { s with regs := { s.regs with f := f } }

def withAF (s : State) (a f : Byte) : State := { s with regs := { s.regs with a := a, f := f } }

def withHL (s : State) (v : Word) : State := { s with regs := { s.regs with h := highByte v, l := lowByte v } }

def jumpTo (s : State) (a : Word) : State := { s with regs := { s.regs with pc := a } }

/-- The 8-bit adder's effect (41_alu8.md R181) on A and F. -/
def adds (i : Instr) (v : Byte) (cin : Bool) (s : State) : Prop :=
  let a := s.regs.a
  let res := a + v + BitVec.ofNat 8 cin.toNat
  exec i s = .next
    (withAF s res
      (flagByte (decide (res = 0)) false (decide (16 ≤ a.toNat % 16 + v.toNat % 16 + cin.toNat))
        (decide (256 ≤ a.toNat + v.toNat + cin.toNat))))

/-- The flags of the 8-bit subtractor (R182). -/
def subFlags (a v : Byte) (cin : Bool) : Byte :=
  flagByte (decide (a - v - BitVec.ofNat 8 cin.toNat = 0)) true (decide (a.toNat % 16 < v.toNat % 16 + cin.toNat))
    (decide (a.toNat < v.toNat + cin.toNat))

/-- The 8-bit subtractor's effect (R182) on A and F. -/
def subtracts (i : Instr) (v : Byte) (cin : Bool) (s : State) : Prop :=
  exec i s = .next (withAF s (s.regs.a - v - BitVec.ofNat 8 cin.toNat) (subFlags s.regs.a v cin))

/-- A logical operation's effect on A and F: N and C are 0 (R187, R188, R189). -/
def logic (i : Instr) (res : Byte) (h : Bool) (s : State) : Prop :=
  exec i s = .next (withAF s res (flagByte (decide (res = 0)) false h false))

/-- What DAA makes of A and C (R195). -/
def decimal (a : Byte) (n h c : Bool) : Byte × Bool :=
  if n then (a - (if h then 0x06 else 0) - (if c then 0x60 else 0), c)
  else
    (a + (if h = true ∨ 9 < a.toNat % 16 then 0x06 else 0) + (if c = true ∨ 0x99 < a.toNat then 0x60 else 0),
      c || decide (0x99 < a.toNat))

/-- A rotate's or shift's result and the bit shifted out (43_rotate_bit.md R230 to R237), by the bits it is made of. -/
def rotated (op : RotOp) (v : Byte) (c : Bool) : Byte × Bool :=
  match op with
  | .rlc => (v.extractLsb' 0 7 ++ BitVec.ofBool (v.getLsbD 7), v.getLsbD 7)
  | .rrc => (BitVec.ofBool (v.getLsbD 0) ++ v.extractLsb' 1 7, v.getLsbD 0)
  | .rl => (v.extractLsb' 0 7 ++ BitVec.ofBool c, v.getLsbD 7)
  | .rr => (BitVec.ofBool c ++ v.extractLsb' 1 7, v.getLsbD 0)
  | .sla => (v.extractLsb' 0 7 ++ 0#1, v.getLsbD 7)
  | .sra => (BitVec.ofBool (v.getLsbD 7) ++ v.extractLsb' 1 7, v.getLsbD 0)
  | .swap => (v.extractLsb' 0 4 ++ v.extractLsb' 4 4, false)
  | .srl => (0#1 ++ v.extractLsb' 1 7, v.getLsbD 0)

/-- The flags of `add_sp_e8` (42_alu16.md R210). -/
def offsetFlags (sp : Word) (b : Byte) : Byte :=
  flagByte false false (decide (16 ≤ sp.toNat % 16 + b.toNat % 16)) (decide (256 ≤ sp.toNat % 256 + b.toNat))

/-- The packed BCD byte of a number below 100. -/
def bcd (n : Nat) : Byte := BitVec.ofNat 8 (n / 10 * 16 + n % 10)

/-! ## The stack (40_load.md R160, R161) -/

/-- The two addresses `push16` stores to. -/
def slots (s : State) : List Word := [s.regs.sp - 1, s.regs.sp - 2]

/-- The state after `push16(v)`: the high byte at SP-1, then the low byte at SP-2. -/
def pushed (s : State) (v : Word) : State :=
  ({ s with regs := { s.regs with sp := s.regs.sp - 2 } }.busWrite (s.regs.sp - 1) (highByte v)).busWrite
    (s.regs.sp - 2) (lowByte v)

/-- The value `pop16()` returns. -/
def popped (s : State) : Word := s.busRead (s.regs.sp + 1) ++ s.busRead s.regs.sp

/-! ## The bus -/

/-- The plain cells of 20_memory.md R72: entries 2, 3, 5, 7, 8, 11, 13, 15 and 18. -/
def plainStorage (n : Nat) : Prop :=
  (0xFF80 ≤ n ∧ n ≤ 0xFFFE) ∨ n = 0xFF50 ∨ (0xFF10 ≤ n ∧ n ≤ 0xFF3F) ∨ (0xFF04 ≤ n ∧ n ≤ 0xFF07) ∨
    (0xFF01 ≤ n ∧ n ≤ 0xFF02) ∨ (0xFE00 ≤ n ∧ n ≤ 0xFE9F) ∨ (0xC000 ≤ n ∧ n ≤ 0xDFFF) ∨
    (0x8000 ≤ n ∧ n ≤ 0x9FFF) ∨ n = 0xFF03 ∨ (0xFF08 ≤ n ∧ n ≤ 0xFF0E) ∨ (0xFF4C ≤ n ∧ n ≤ 0xFF4F) ∨
    (0xFF51 ≤ n ∧ n ≤ 0xFF7F)

/-- Echo RAM (R75). -/
def echoRam (n : Nat) : Prop := 0xE000 ≤ n ∧ n ≤ 0xFDFF

/-- Storage a write is read back from: a plain cell or echo RAM. -/
def storage (a : Word) : Prop := plainStorage a.toNat ∨ echoRam a.toNat

/-- A display register on a bus read (R82, 10_state.md R49). -/
def displayRead (d : Display) : List (Word × Byte) :=
  [(0xFF40, d.lcdc), (0xFF41, d.stat), (0xFF42, d.scy), (0xFF43, d.scx), (0xFF44, d.ly), (0xFF45, d.lyc),
    (0xFF46, 0xFF), (0xFF47, d.bgp), (0xFF48, d.obp0), (0xFF49, d.obp1), (0xFF4A, d.wy), (0xFF4B, d.wx)]

/-- A display register's bus write, but for the DMA register (R82). -/
def displayWrite (d : Display) (v : Byte) : List (Word × Display) :=
  [(0xFF40, { d with lcdc := v }), (0xFF41, { d with stat := v.extractLsb' 3 5 ++ d.stat.extractLsb' 0 3 }),
    (0xFF42, { d with scy := v }), (0xFF43, { d with scx := v }), (0xFF44, d), (0xFF45, { d with lyc := v }),
    (0xFF47, { d with bgp := v }), (0xFF48, { d with obp0 := v }), (0xFF49, { d with obp1 := v }),
    (0xFF4A, { d with wy := v }), (0xFF4B, { d with wx := v })]

/-- `dma_copy(v)` (R90): 160 bytes in ascending order. -/
def dmaCopied (s : State) (v : Byte) : State :=
  (List.range 160).foldl
    (fun t i => { t with mem := t.mem.write (0xFE00 + i) (t.busRead (BitVec.ofNat 16 (v.toNat * 256 + i))) }) s

/-- A store to `b` may change what a read of `a` gives: the same byte; its echo alias (R75); OAM, for the DMA register
(R90); the boot window, for the boot-disable latch (R80); the cartridge's windows, for a cartridge that is not flat
(R79). -/
def reaches (s : State) (b a : Word) : Prop :=
  a = b ∨ (echoRam b.toNat ∧ a.toNat + 0x2000 = b.toNat) ∨ (echoRam a.toNat ∧ b.toNat + 0x2000 = a.toNat) ∨
    (b = 0xFF46 ∧ 0xFE00 ≤ a.toNat ∧ a.toNat ≤ 0xFE9F) ∨ (b = 0xFF50 ∧ a.toNat ≤ 0xFF) ∨
    ((∃ hidden, s.cart = .external hidden) ∧ b.toNat ≤ 0x7FFF ∧ a.toNat ≤ 0x7FFF)

/-- The addresses an instruction stores to, in the state it runs in: none for every form not listed. -/
def stores (i : Instr) (s : State) : List Word :=
  match i with
  | .ld_atHL_B | .ld_atHL_C | .ld_atHL_D | .ld_atHL_E | .ld_atHL_H | .ld_atHL_L | .ld_atHL_A | .ld_atHLinc_A
  | .ld_atHLdec_A | .inc_atHL | .dec_atHL | .rlc_atHL | .rrc_atHL | .rl_atHL | .rr_atHL | .sla_atHL | .sra_atHL
  | .swap_atHL | .srl_atHL | .res_0_atHL | .res_1_atHL | .res_2_atHL | .res_3_atHL | .res_4_atHL | .res_5_atHL
  | .res_6_atHL | .res_7_atHL | .set_0_atHL | .set_1_atHL | .set_2_atHL | .set_3_atHL | .set_4_atHL
  | .set_5_atHL | .set_6_atHL | .set_7_atHL => [hl s]
  | .ld_atBC_A => [s.regs.b ++ s.regs.c]
  | .ld_atDE_A => [s.regs.d ++ s.regs.e]
  | .ld_atC_A => [0xFF00 + s.regs.c.setWidth 16]
  | .push_BC | .push_DE | .push_HL | .push_AF | .rst_00H | .rst_08H | .rst_10H | .rst_18H | .rst_20H | .rst_28H
  | .rst_30H | .rst_38H => slots s
  | .ld_atHL_d8 _ => [hl s]
  | .ld_atA16_A a => [a]
  | .ldh_atA8_A n => [0xFF00 + n.setWidth 16]
  | .ld_atA16_SP a => [a, a + 1]
  | .call_a16 _ => slots s
  | .call_NZ_a16 _ => if holds .nz s then slots s else []
  | .call_Z_a16 _ => if holds .z s then slots s else []
  | .call_NC_a16 _ => if holds .nc s then slots s else []
  | .call_C_a16 _ => if holds .c s then slots s else []
  | _ => []

/-! ## The steps -/

/-- Interrupt kind `k` is pending and enabled (60_exceptions.md R310). -/
def pendingKind (s : State) (k : Nat) : Prop := s.ie.getLsbD k = true ∧ s.ifr.getLsbD k = true

def nonePending (s : State) : Prop := ∀ k, k < 5 → ¬pendingKind s k

def lowestPending (s : State) (k : Nat) : Prop := k < 5 ∧ pendingKind s k ∧ ∀ j, j < k → ¬pendingKind s j

/-- The state after `service(k)` (R312). -/
def serviced (s : State) (k : Nat) : State :=
  jumpTo (pushed { s with ime := false, ifr := s.ifr &&& ~~~(1#8 <<< k) } s.regs.pc) (0x0040 + BitVec.ofNat 16 (8 * k))

/-- The next processor step services what is pending. -/
def servicesNext (s : State) : Prop :=
  ∀ k, lowestPending s k → cpuTick s = .next (serviced { s with halted := false } k, some 20)

/-- The bytes at PC. -/
def bytesAtPc (s : State) : List Byte :=
  [s.busRead s.regs.pc, s.busRead (s.regs.pc + 1), s.busRead (s.regs.pc + 2)]

/-- The state an instruction runs in: awake, branch_taken clear, PC past its bytes (30_encoding.md R111, 10_state.md
R37, R43, R44); the controller's draw counter is the model's own (log entry 3). -/
def running (s : State) (i : Instr) : State :=
  { s with
    halted := false
    branchTaken := false
    regs := { s.regs with pc := s.regs.pc + BitVec.ofNat 16 (encode i).length }
    ctrl := { s.ctrl with draws := s.ctrl.draws + 1 } }

/-- The end of a system step (60_exceptions.md R370): the display step, then the controller hook; the controller's draw
counter is the model's own (log entry 3). -/
def finished (s : State) (cycles : Nat) : State :=
  let t := s.dispTick cycles
  { t with ctrl := { t.ctrl with ticks := t.ctrl.ticks + 1, draws := t.ctrl.draws + 1 } }

/-! ## The display -/

/-- The phase budgets (60_exceptions.md R344). -/
def budget : Mode → Nat
  | .oam => 80
  | .vram => 172
  | .hblank => 204
  | .vblank => 456

/-- The mode encodings (10_state.md R51). -/
def modeBits : Mode → BitVec 2
  | .oam => 0b10
  | .vram => 0b11
  | .hblank => 0b00
  | .vblank => 0b01

/-- `set_mode(m)` (R346). -/
def inMode (s : State) (m : Mode) : State :=
  { s with lcd := { s.lcd with mode := m, stat := s.lcd.stat.extractLsb' 2 6 ++ modeBits m } }

def withLy (s : State) (v : Byte) : State := { s with lcd := { s.lcd with ly := v } }

def withAcc (s : State) (n : Nat) : State := { s with lcd := { s.lcd with acc := n } }

/-- The colour index of pixel `n` of the tile row whose low plane is at `address` (R354). -/
def pixel (s : State) (address n : Nat) : Shade :=
  BitVec.ofBool ((s.busRead (BitVec.ofNat 16 (address + 1))).getLsbD (7 - n)) ++
    BitVec.ofBool ((s.busRead (BitVec.ofNat 16 address)).getLsbD (7 - n))

/-- `shade(pal, p)` (R358): bits 2p+1 and 2p of the palette. -/
def paletteShade (pal : Byte) (p : Shade) : Shade := pal.extractLsb' (2 * p.toNat) 2

/-- The raw colour index of a background pixel (R355). -/
def backgroundIndex (s : State) (line col : Nat) : Shade :=
  let x := (s.lcd.scx.toNat + col) % 256
  let y := (s.lcd.scy.toNat + line) % 256
  let map := if s.lcd.lcdc.getLsbD 3 then 0x9C00 else 0x9800
  let idx := (s.busRead (BitVec.ofNat 16 (map + y / 8 * 32 + x / 8))).toNat
  let tile := if s.lcd.lcdc.getLsbD 4 then 0x8000 + idx * 16 else 0x8800 + (idx + 128) % 256 * 16
  pixel s (tile + y % 8 * 2) (x % 8)

/-- The shade OAM entry `i` draws at line `y`, column `x`, if it draws there (R359, R360, R361, R363). -/
def spriteShade (s : State) (i y x : Nat) : Option Shade :=
  let posY := (s.busRead (BitVec.ofNat 16 (0xFE00 + 4 * i))).toNat
  let posX := (s.busRead (BitVec.ofNat 16 (0xFE00 + 4 * i + 1))).toNat
  let tile := (s.busRead (BitVec.ofNat 16 (0xFE00 + 4 * i + 2))).toNat
  let flags := s.busRead (BitVec.ofNat 16 (0xFE00 + 4 * i + 3))
  let h := if s.lcd.lcdc.getLsbD 2 then 16 else 8
  if posX = 0 ∨ 168 ≤ posX ∨ posY = 0 ∨ 160 ≤ posY then none
  else if ¬(posY ≤ y + 16 ∧ y + 16 < posY + h ∧ posX ≤ x + 8 ∧ x + 8 < posX + 8) then none
  else
    let row := y + 16 - posY
    let col := x + 8 - posX
    let ty := if flags.getLsbD 6 then h - 1 - row else row
    let tx := if flags.getLsbD 5 then 7 - col else col
    let c := pixel s (0x8000 + tile * 16 + 2 * ty) tx
    if c = 0 then none
    else if flags.getLsbD 7 = true ∧ s.lcd.bgi.get y x ≠ 0 then none
    else some (paletteShade (if flags.getLsbD 4 then s.lcd.obp1 else s.lcd.obp0) c)

end Sys2Proof.Claims

open Sys2Proof Sys2Proof.Machine Sys2Proof.Claims

/-! ## Encoding -/

/-- Decoding the bytes of any instruction, whatever bytes follow, gives that instruction back and leaves those bytes
(30_encoding.md R110, R112). -/
def Obligations.DecodeInvertsEncode : Prop :=
  ∀ (i : Instr) (rest : List Byte), decodeBytes (encode i ++ rest) = .ok (i, rest)

/-- What the decoder reads, the encoder writes: the bytes consumed are the instruction's encoding, so no two byte
sequences decode to one instruction (30_encoding.md R111, R116, R120). -/
def Obligations.EncodeInvertsDecode : Prop :=
  ∀ (bytes : List Byte) (i : Instr) (rest : List Byte), decodeBytes bytes = .ok (i, rest) → bytes = encode i ++ rest

/-- A few words written out from 30_encoding.md R116 and R120 and from the source's own program, each with the
instruction it stands for; a word cut short is refused by name. -/
def Obligations.SpecWordsDecode : Prop :=
  decodeBytes [0x3E, 0x05, 0x3C, 0x76] = .ok (.ld_A_d8 0x05, [0x3C, 0x76]) ∧
  decodeBytes [0x3C, 0x76] = .ok (.inc_A, [0x76]) ∧
  decodeBytes [0x76] = .ok (.halt, []) ∧
  decodeBytes [0x08, 0x00, 0xC1] = .ok (.ld_atA16_SP 0xC100, []) ∧
  decodeBytes [0xCB, 0xDE] = .ok (.set_3_atHL, []) ∧
  decodeBytes [0xCB, 0xCB] = .ok (.set_1_E, []) ∧
  decodeBytes [0x20, 0xFB] = .ok (.jr_NZ_e8 0xFB, []) ∧
  decodeBytes [0xD3] = .ok (.illegal_D3, []) ∧
  decodeBytes [0xC3, 0x50] = .error (.truncated 0xC3)

/-- 60_exceptions.md R303: Fatal is raised by the eleven illegal primary opcodes and by nothing else, with the recorded
value; the slots are those of 30_encoding.md R117. -/
def Obligations.FaultCausesAreTheElevenSlots : Prop :=
  ∀ (b0 b1 b2 : Byte) (s t : State), s.fault = none → exec (decode b0 b1 b2) s = .next t →
    t.fault =
      if b0 ∈ illegalSlots.map Prod.snd then
        some { cause := .unimplementedOpcode, opcode := b0, prefixed := false, address := s.regs.pc - 1 }
      else none

/-! ## Registers -/

/-- 10_state.md R32: the pairs are views with the first-named register high; a write of a pair writes those two
registers and nothing else, and a write of AF keeps F's low nibble 0. -/
def Obligations.PairsAreViewsOfRegisters : Prop :=
  ∀ (r : Regs) (v : Word),
    (r.get16 .bc).toNat = r.b.toNat * 256 + r.c.toNat ∧ (r.get16 .de).toNat = r.d.toNat * 256 + r.e.toNat ∧
    (r.get16 .hl).toNat = r.h.toNat * 256 + r.l.toNat ∧
    (r.getStack .af).toNat = r.a.toNat * 256 + r.f.toNat / 16 * 16 ∧
    r.set16 .bc v = { r with b := highByte v, c := lowByte v } ∧
    r.set16 .de v = { r with d := highByte v, e := lowByte v } ∧
    r.set16 .hl v = { r with h := highByte v, l := lowByte v } ∧
    r.setStack .af v = { r with a := highByte v, f := lowByte v &&& 0xF0 } ∧
    (∀ n w, (r.set8 n w).get8 n = w) ∧ (∀ n m w, m ≠ n → (r.set8 n w).get8 m = r.get8 m) ∧
    (∀ p, (r.set16 p v).get16 p = v) ∧ (r.setStack .af v).getStack .af = v &&& 0xFFF0

/-! ## Loads and stores -/

/-- 40_load.md R140 and R141: the result, nothing else changed, the encodings and the cycles. -/
def Obligations.LoadRegisterFromRegisterOrImmediate : Prop :=
  ∀ (dst src : Reg8) (v : Byte) (s : State),
    exec (Instr.ldRegReg dst src) s = .next { s with regs := s.regs.set8 dst (s.regs.get8 src) } ∧
    (dst = src → exec (Instr.ldRegReg dst src) s = .next s) ∧
    exec (Instr.ldRegImm dst v) s = .next { s with regs := s.regs.set8 dst v } ∧
    encode (Instr.ldRegReg dst src) = [0b01#2 ++ reg8Code dst ++ reg8Code src] ∧
    encode (Instr.ldRegImm dst v) = [0b00#2 ++ reg8Code dst ++ 0b110#3, v] ∧
    ∀ taken, cost (Instr.ldRegReg dst src) taken = 4 ∧ cost (Instr.ldRegImm dst v) taken = 8

/-- 40_load.md R142: the byte at the old HL, for H and L as destination too. -/
def Obligations.LoadRegisterFromMemoryAtHL : Prop :=
  ∀ (dst : Reg8) (s : State),
    exec (Instr.ldRegAtHL dst) s = .next { s with regs := s.regs.set8 dst (s.busRead (s.regs.h ++ s.regs.l)) } ∧
    encode (Instr.ldRegAtHL dst) = [0b01#2 ++ reg8Code dst ++ 0b110#3] ∧ ∀ taken, cost (Instr.ldRegAtHL dst) taken = 8

/-- 40_load.md R143 and R144: one bus write at HL, and nothing else. -/
def Obligations.StoreToMemoryAtHL : Prop :=
  ∀ (r : Reg8) (v : Byte) (s : State),
    exec (Instr.ldAtHLReg r) s = .next (s.busWrite (s.regs.h ++ s.regs.l) (s.regs.get8 r)) ∧
    exec (.ld_atHL_d8 v) s = .next (s.busWrite (s.regs.h ++ s.regs.l) v) ∧
    encode (Instr.ldAtHLReg r) = [0b01110#5 ++ reg8Code r] ∧ encode (.ld_atHL_d8 v) = [0x36, v] ∧
    ∀ taken, cost (Instr.ldAtHLReg r) taken = 8 ∧ cost (.ld_atHL_d8 v) taken = 12

/-- 40_load.md R145, R147, R149 and R151: A takes the byte at the address, and nothing else changes. -/
def Obligations.LoadAccumulatorFromMemory : Prop :=
  ∀ (a : Word) (n : Byte) (s : State),
    let loads (i : Instr) (address : Word) : Prop :=
      exec i s = .next { s with regs := { s.regs with a := s.busRead address } }
    loads .ld_A_atBC (s.regs.b ++ s.regs.c) ∧ loads .ld_A_atDE (s.regs.d ++ s.regs.e) ∧ loads (.ld_A_atA16 a) a ∧
    loads (.ldh_A_atA8 n) (0xFF00 + n.setWidth 16) ∧ loads .ld_A_atC (0xFF00 + s.regs.c.setWidth 16) ∧
    encode .ld_A_atBC = [0x0A] ∧ encode .ld_A_atDE = [0x1A] ∧
    encode (.ld_A_atA16 a) = [0xFA, lowByte a, highByte a] ∧ encode (.ldh_A_atA8 n) = [0xF0, n] ∧
    encode .ld_A_atC = [0xF2] ∧
    ∀ taken, cost .ld_A_atBC taken = 8 ∧ cost .ld_A_atDE taken = 8 ∧ cost (.ld_A_atA16 a) taken = 16 ∧
      cost (.ldh_A_atA8 n) taken = 12 ∧ cost .ld_A_atC taken = 8

/-- 40_load.md R146, R148, R150 and R152: one bus write of A at the address, and nothing else. -/
def Obligations.StoreAccumulatorToMemory : Prop :=
  ∀ (a : Word) (n : Byte) (s : State),
    let saves (i : Instr) (address : Word) : Prop := exec i s = .next (s.busWrite address s.regs.a)
    saves .ld_atBC_A (s.regs.b ++ s.regs.c) ∧ saves .ld_atDE_A (s.regs.d ++ s.regs.e) ∧ saves (.ld_atA16_A a) a ∧
    saves (.ldh_atA8_A n) (0xFF00 + n.setWidth 16) ∧ saves .ld_atC_A (0xFF00 + s.regs.c.setWidth 16) ∧
    encode .ld_atBC_A = [0x02] ∧ encode .ld_atDE_A = [0x12] ∧
    encode (.ld_atA16_A a) = [0xEA, lowByte a, highByte a] ∧ encode (.ldh_atA8_A n) = [0xE0, n] ∧
    encode .ld_atC_A = [0xE2] ∧
    ∀ taken, cost .ld_atBC_A taken = 8 ∧ cost .ld_atDE_A taken = 8 ∧ cost (.ld_atA16_A a) taken = 16 ∧
      cost (.ldh_atA8_A n) taken = 12 ∧ cost .ld_atC_A taken = 8

/-- 40_load.md R153 to R156: the access at the old HL, then HL moved by one, wrapping; no flag. -/
def Obligations.LoadAndStoreAtMovingHL : Prop :=
  ∀ s : State,
    exec .ld_atHLinc_A s = .next (withHL (s.busWrite (hl s) s.regs.a) (hl s + 1)) ∧
    exec .ld_atHLdec_A s = .next (withHL (s.busWrite (hl s) s.regs.a) (hl s - 1)) ∧
    exec .ld_A_atHLinc s = .next (withHL (withAF s (s.busRead (hl s)) s.regs.f) (hl s + 1)) ∧
    exec .ld_A_atHLdec s = .next (withHL (withAF s (s.busRead (hl s)) s.regs.f) (hl s - 1)) ∧
    encode .ld_atHLinc_A = [0x22] ∧ encode .ld_atHLdec_A = [0x32] ∧ encode .ld_A_atHLinc = [0x2A] ∧
    encode .ld_A_atHLdec = [0x3A] ∧
    ∀ taken, cost .ld_atHLinc_A taken = 8 ∧ cost .ld_atHLdec_A taken = 8 ∧ cost .ld_A_atHLinc taken = 8 ∧
      cost .ld_A_atHLdec taken = 8

/-- 40_load.md R157 and R159. -/
def Obligations.LoadPairOrStackPointer : Prop :=
  ∀ (p : Pair) (v : Word) (s : State),
    exec (Instr.ldPairImm p v) s =
      .next
        { s with
          regs :=
            match p with
            | .bc => { s.regs with b := highByte v, c := lowByte v }
            | .de => { s.regs with d := highByte v, e := lowByte v }
            | .hl => { s.regs with h := highByte v, l := lowByte v }
            | .sp => { s.regs with sp := v } } ∧
    exec .ld_SP_HL s = .next { s with regs := { s.regs with sp := s.regs.h ++ s.regs.l } } ∧
    encode (Instr.ldPairImm p v) = [0b00#2 ++ pairCode p ++ 0b0001#4, lowByte v, highByte v] ∧
    encode .ld_SP_HL = [0xF9] ∧ ∀ taken, cost (Instr.ldPairImm p v) taken = 12 ∧ cost .ld_SP_HL taken = 8

/-- 42_alu16.md R210 and R214, 40_load.md R158: the signed sum, and the flags of the unsigned low-byte sum. -/
def Obligations.StackPointerPlusOffset : Prop :=
  ∀ (b : Byte) (s : State),
    let res : Word := BitVec.ofInt 16 (s.regs.sp.toNat + b.toInt)
    exec (.ld_HL_SPe8 b) s = .next (withF (withHL s res) (offsetFlags s.regs.sp b)) ∧
    exec (.add_SP_e8 b) s = .next { s with regs := { s.regs with sp := res, f := offsetFlags s.regs.sp b } } ∧
    encode (.ld_HL_SPe8 b) = [0xF8, b] ∧ encode (.add_SP_e8 b) = [0xE8, b] ∧
    ∀ taken, cost (.ld_HL_SPe8 b) taken = 12 ∧ cost (.add_SP_e8 b) taken = 16

/-- 40_load.md R160, R162 and R164: what is stored, where and in which order; PUSH AF stores F with bits 3..0 zero. -/
def Obligations.PushAndStoreStackPointer : Prop :=
  ∀ (p : StackPair) (a : Word) (s : State),
    exec (Instr.push p) s =
      .next
        (pushed s
          (match p with
          | .bc => s.regs.b ++ s.regs.c
          | .de => s.regs.d ++ s.regs.e
          | .hl => s.regs.h ++ s.regs.l
          | .af => s.regs.a ++ (s.regs.f &&& 0xF0))) ∧
    exec (.ld_atA16_SP a) s =
      .next ((s.busWrite a (lowByte s.regs.sp)).busWrite (a + 1) (highByte s.regs.sp)) ∧
    encode (Instr.push p) = [0b11#2 ++ stackPairCode p ++ 0b0101#4] ∧
    encode (.ld_atA16_SP a) = [0x08, lowByte a, highByte a] ∧
    ∀ taken, cost (Instr.push p) taken = 16 ∧ cost (.ld_atA16_SP a) taken = 20

/-- 40_load.md R163: the low byte at SP and the high byte at SP+1; POP AF clears bits 3..0 of F, and the other POPs
leave F. -/
def Obligations.PopRegisterPair : Prop :=
  ∀ (p : StackPair) (s : State),
    let low := s.busRead s.regs.sp
    let high := s.busRead (s.regs.sp + 1)
    exec (Instr.pop p) s =
      .next
        { s with
          regs :=
            match p with
            | .bc => { s.regs with sp := s.regs.sp + 2, b := high, c := low }
            | .de => { s.regs with sp := s.regs.sp + 2, d := high, e := low }
            | .hl => { s.regs with sp := s.regs.sp + 2, h := high, l := low }
            | .af => { s.regs with sp := s.regs.sp + 2, a := high, f := low &&& 0xF0 } } ∧
    encode (Instr.pop p) = [0b11#2 ++ stackPairCode p ++ 0b0001#4] ∧ ∀ taken, cost (Instr.pop p) taken = 12

/-! ## 8-bit arithmetic -/

/-- 41_alu8.md R181, R183 and R184, for every source of R180. -/
def Obligations.AddAndAddWithCarry : Prop :=
  ∀ (o : Operand8) (d : Byte) (s : State),
    adds (Instr.alu .add o) (operand s o) false s ∧ adds (.add_A_d8 d) d false s ∧
    adds (Instr.alu .adc o) (operand s o) (carry s) s ∧ adds (.adc_A_d8 d) d (carry s) s ∧
    encode (Instr.alu .add o) = [0b10000#5 ++ operandCode o] ∧ encode (.add_A_d8 d) = [0xC6, d] ∧
    encode (Instr.alu .adc o) = [0b10001#5 ++ operandCode o] ∧ encode (.adc_A_d8 d) = [0xCE, d] ∧
    ∀ taken, cost (Instr.alu .add o) taken = (if o = .atHL then 8 else 4) ∧ cost (.add_A_d8 d) taken = 8 ∧
      cost (Instr.alu .adc o) taken = (if o = .atHL then 8 else 4) ∧ cost (.adc_A_d8 d) taken = 8

/-- 41_alu8.md R182, R185, R186 and R190, for every source of R180; CP leaves A. -/
def Obligations.SubtractAndCompare : Prop :=
  ∀ (o : Operand8) (d : Byte) (s : State),
    subtracts (Instr.alu .sub o) (operand s o) false s ∧ subtracts (.sub_d8 d) d false s ∧
    subtracts (Instr.alu .sbc o) (operand s o) (carry s) s ∧ subtracts (.sbc_A_d8 d) d (carry s) s ∧
    exec (Instr.alu .cp o) s = .next (withF s (subFlags s.regs.a (operand s o) false)) ∧
    exec (.cp_d8 d) s = .next (withF s (subFlags s.regs.a d false)) ∧
    encode (Instr.alu .sub o) = [0b10010#5 ++ operandCode o] ∧ encode (.sub_d8 d) = [0xD6, d] ∧
    encode (Instr.alu .sbc o) = [0b10011#5 ++ operandCode o] ∧ encode (.sbc_A_d8 d) = [0xDE, d] ∧
    encode (Instr.alu .cp o) = [0b10111#5 ++ operandCode o] ∧ encode (.cp_d8 d) = [0xFE, d] ∧
    ∀ taken, (∀ op ∈ [AluOp.sub, .sbc, .cp], cost (Instr.alu op o) taken = if o = .atHL then 8 else 4) ∧
      cost (.sub_d8 d) taken = 8 ∧ cost (.sbc_A_d8 d) taken = 8 ∧ cost (.cp_d8 d) taken = 8

/-- 41_alu8.md R187, R188 and R189, for every source of R180. -/
def Obligations.LogicalOperations : Prop :=
  ∀ (o : Operand8) (d : Byte) (s : State),
    logic (Instr.alu .and o) (s.regs.a &&& operand s o) true s ∧ logic (.and_d8 d) (s.regs.a &&& d) true s ∧
    logic (Instr.alu .xor o) (s.regs.a ^^^ operand s o) false s ∧ logic (.xor_d8 d) (s.regs.a ^^^ d) false s ∧
    logic (Instr.alu .or o) (s.regs.a ||| operand s o) false s ∧ logic (.or_d8 d) (s.regs.a ||| d) false s ∧
    encode (Instr.alu .and o) = [0b10100#5 ++ operandCode o] ∧ encode (.and_d8 d) = [0xE6, d] ∧
    encode (Instr.alu .xor o) = [0b10101#5 ++ operandCode o] ∧ encode (.xor_d8 d) = [0xEE, d] ∧
    encode (Instr.alu .or o) = [0b10110#5 ++ operandCode o] ∧ encode (.or_d8 d) = [0xF6, d] ∧
    ∀ taken, (∀ op ∈ [AluOp.and, .xor, .or], cost (Instr.alu op o) taken = if o = .atHL then 8 else 4) ∧
      cost (.and_d8 d) taken = 8 ∧ cost (.xor_d8 d) taken = 8 ∧ cost (.or_d8 d) taken = 8

/-- 41_alu8.md R191 to R194: the carry flag is never altered; for (HL) the read comes before the write. -/
def Obligations.IncrementAndDecrement : Prop :=
  ∀ (o : Operand8) (s : State),
    let v := operand s o
    exec (Instr.inc8 o) s =
      .next
        (withF (putOperand s o (v + 1))
          (flagByte (decide (v + 1 = 0)) false (decide ((v + 1).toNat % 16 = 0)) (carry s))) ∧
    exec (Instr.dec8 o) s =
      .next
        (withF (putOperand s o (v - 1))
          (flagByte (decide (v - 1 = 0)) true (decide ((v - 1).toNat % 16 = 15)) (carry s))) ∧
    encode (Instr.inc8 o) = [0b00#2 ++ operandCode o ++ 0b100#3] ∧
    encode (Instr.dec8 o) = [0b00#2 ++ operandCode o ++ 0b101#3] ∧
    ∀ taken, cost (Instr.inc8 o) taken = (if o = .atHL then 12 else 4) ∧
      cost (Instr.dec8 o) taken = (if o = .atHL then 12 else 4)

/-- 41_alu8.md R195: N is unchanged and H is 0. -/
def Obligations.DecimalAdjust : Prop :=
  ∀ s : State,
    let out := decimal s.regs.a (subtract s) (halfCarry s) (carry s)
    exec .daa s = .next (withAF s out.1 (flagByte (decide (out.1 = 0)) (subtract s) false out.2)) ∧
    encode .daa = [0x27] ∧ ∀ taken, cost .daa taken = 4

/-- DAA does what it is for: after an addition or a subtraction of two packed BCD bytes, with the carry in, A is the
packed BCD of the result modulo 100 and C is the decimal carry or borrow (derived from 41_alu8.md R184, R186, R195). -/
def Obligations.DecimalAdjustGivesPackedBcd : Prop :=
  ∀ (x y : Nat) (s t u : State), x < 100 → y < 100 → s.regs.a = bcd x →
    (exec (.adc_A_d8 (bcd y)) s = .next t → exec .daa t = .next u →
      u.regs.a = bcd ((x + y + (carry s).toNat) % 100) ∧ carry u = decide (100 ≤ x + y + (carry s).toNat)) ∧
    (exec (.sbc_A_d8 (bcd y)) s = .next t → exec .daa t = .next u →
      u.regs.a = bcd ((x + 100 - y - (carry s).toNat) % 100) ∧ carry u = decide (x < y + (carry s).toNat))

/-- 41_alu8.md R196, R197 and R198. -/
def Obligations.ComplementAndCarryFlag : Prop :=
  ∀ s : State,
    exec .cpl s = .next (withAF s (255 - s.regs.a) (flagByte (zero s) true true (carry s))) ∧
    exec .scf s = .next (withF s (flagByte (zero s) false false true)) ∧
    exec .ccf s = .next (withF s (flagByte (zero s) false false (!carry s))) ∧
    encode .cpl = [0x2F] ∧ encode .scf = [0x37] ∧ encode .ccf = [0x3F] ∧
    ∀ taken, cost .cpl taken = 4 ∧ cost .scf taken = 4 ∧ cost .ccf taken = 4

/-! ## 16-bit arithmetic -/

/-- 42_alu16.md R211, R212 and R213: ADD HL forces Z to 0; INC and DEC write no flag. -/
def Obligations.SixteenBitArithmetic : Prop :=
  ∀ (p : Pair) (s : State),
    let a := hl s
    let b := s.regs.get16 p
    exec (Instr.addHL p) s =
      .next
        (withF (withHL s (a + b))
          (flagByte false false (decide (4096 ≤ a.toNat % 4096 + b.toNat % 4096))
            (decide (65536 ≤ a.toNat + b.toNat)))) ∧
    exec (Instr.incPair p) s = .next { s with regs := s.regs.set16 p (b + 1) } ∧
    exec (Instr.decPair p) s = .next { s with regs := s.regs.set16 p (b - 1) } ∧
    encode (Instr.addHL p) = [0b00#2 ++ pairCode p ++ 0b1001#4] ∧
    encode (Instr.incPair p) = [0b00#2 ++ pairCode p ++ 0b0011#4] ∧
    encode (Instr.decPair p) = [0b00#2 ++ pairCode p ++ 0b1011#4] ∧
    ∀ taken, cost (Instr.addHL p) taken = 8 ∧ cost (Instr.incPair p) taken = 8 ∧ cost (Instr.decPair p) taken = 8

/-! ## Rotates, shifts and bit operations -/

/-- 43_rotate_bit.md R225 to R228: Z is forced to 0, even for a zero result. -/
def Obligations.AccumulatorRotates : Prop :=
  ∀ s : State,
    let turns (i : Instr) (op : RotOp) : Prop :=
      let out := rotated op s.regs.a (carry s)
      exec i s = .next (withAF s out.1 (flagByte false false false out.2))
    turns .rlca .rlc ∧ turns .rrca .rrc ∧ turns .rla .rl ∧ turns .rra .rr ∧
    encode .rlca = [0x07] ∧ encode .rrca = [0x0F] ∧ encode .rla = [0x17] ∧ encode .rra = [0x1F] ∧
    ∀ taken, cost .rlca taken = 4 ∧ cost .rrca taken = 4 ∧ cost .rla taken = 4 ∧ cost .rra taken = 4

/-- 43_rotate_bit.md R230 to R237, for every operand of R229; for (HL) the read comes before the write. -/
def Obligations.RotatesAndShifts : Prop :=
  ∀ (op : RotOp) (o : Operand8) (s : State),
    let out := rotated op (operand s o) (carry s)
    exec (Instr.rotate op o) s =
      .next (withF (putOperand s o out.1) (flagByte (decide (out.1 = 0)) false false out.2)) ∧
    encode (Instr.rotate op o) = [0xCB, 0b00#2 ++ rotCode op ++ operandCode o] ∧
    ∀ taken, cost (Instr.rotate op o) taken = if o = .atHL then 16 else 8

/-- 43_rotate_bit.md R238, R239 and R240: BIT writes nothing back and leaves C; RES and SET touch no flag. -/
def Obligations.BitTestResetSet : Prop :=
  ∀ (b : Field3) (o : Operand8) (s : State),
    exec (Instr.bitTest b o) s = .next (withF s (flagByte (!(operand s o).getLsbD b.toNat) false true (carry s))) ∧
    exec (Instr.bitReset b o) s = .next (putOperand s o (operand s o &&& ~~~(BitVec.twoPow 8 b.toNat))) ∧
    exec (Instr.bitSet b o) s = .next (putOperand s o (operand s o ||| BitVec.twoPow 8 b.toNat)) ∧
    encode (Instr.bitTest b o) = [0xCB, 0b01#2 ++ fieldCode b ++ operandCode o] ∧
    encode (Instr.bitReset b o) = [0xCB, 0b10#2 ++ fieldCode b ++ operandCode o] ∧
    encode (Instr.bitSet b o) = [0xCB, 0b11#2 ++ fieldCode b ++ operandCode o] ∧
    ∀ taken, cost (Instr.bitTest b o) taken = (if o = .atHL then 12 else 8) ∧
      cost (Instr.bitReset b o) taken = (if o = .atHL then 16 else 8) ∧
      cost (Instr.bitSet b o) taken = (if o = .atHL then 16 else 8)

/-! ## Control transfer -/

/-- 44_control.md R250, R252 and R253: the relative target is the signed sum modulo 65536. -/
def Obligations.UnconditionalJumps : Prop :=
  ∀ (a : Word) (b : Byte) (s : State),
    exec (.jp_a16 a) s = .next (jumpTo s a) ∧ exec .jp_HL s = .next (jumpTo s (s.regs.h ++ s.regs.l)) ∧
    exec (.jr_e8 b) s = .next (jumpTo s (BitVec.ofInt 16 (s.regs.pc.toNat + b.toInt))) ∧
    encode (.jp_a16 a) = [0xC3, lowByte a, highByte a] ∧ encode .jp_HL = [0xE9] ∧ encode (.jr_e8 b) = [0x18, b] ∧
    ∀ taken, cost (.jp_a16 a) taken = 16 ∧ cost .jp_HL taken = 4 ∧ cost (.jr_e8 b) taken = 12

/-- 44_control.md R251 and R254: taken, branch_taken is set and PC goes to the target; not taken, nothing changes. -/
def Obligations.ConditionalJumps : Prop :=
  ∀ (cc : Cond) (a : Word) (b : Byte) (s : State),
    exec (Instr.jpIf cc a) s = .next (if holds cc s then jumpTo { s with branchTaken := true } a else s) ∧
    exec (Instr.jrIf cc b) s =
      .next
        (if holds cc s then
          jumpTo { s with branchTaken := true } (BitVec.ofInt 16 (s.regs.pc.toNat + b.toInt))
        else s) ∧
    encode (Instr.jpIf cc a) = [0b110#3 ++ condCode cc ++ 0b010#3, lowByte a, highByte a] ∧
    encode (Instr.jrIf cc b) = [0b001#3 ++ condCode cc ++ 0b000#3, b] ∧
    ∀ taken, cost (Instr.jpIf cc a) taken = (if taken then 16 else 12) ∧
      cost (Instr.jrIf cc b) taken = (if taken then 12 else 8)

/-- 44_control.md R255 and R260: the address past the instruction is pushed, then PC goes to the target. -/
def Obligations.CallAndRestart : Prop :=
  ∀ (a : Word) (y : Field3) (s : State),
    exec (.call_a16 a) s = .next (jumpTo (pushed s s.regs.pc) a) ∧
    exec (Instr.rst y) s = .next (jumpTo (pushed s s.regs.pc) (BitVec.ofNat 16 (8 * y.toNat))) ∧
    encode (.call_a16 a) = [0xCD, lowByte a, highByte a] ∧
    encode (Instr.rst y) = [0b11#2 ++ fieldCode y ++ 0b111#3] ∧
    ∀ taken, cost (.call_a16 a) taken = 24 ∧ cost (Instr.rst y) taken = 16

/-- 44_control.md R257 and R259: RET leaves IME, RETI sets it; nothing else is restored; after RETI a pending interrupt
is serviced at the very next processor step. -/
def Obligations.ReturnAndReturnFromInterrupt : Prop :=
  ∀ s : State,
    let t := { s with regs := { s.regs with sp := s.regs.sp + 2, pc := popped s } }
    exec .ret s = .next t ∧ exec .reti s = .next { t with ime := true } ∧ servicesNext { t with ime := true } ∧
    encode .ret = [0xC9] ∧ encode .reti = [0xD9] ∧ ∀ taken, cost .ret taken = 16 ∧ cost .reti taken = 16

/-- 44_control.md R256 and R258: not taken, nothing is pushed or popped. -/
def Obligations.ConditionalCallAndReturn : Prop :=
  ∀ (cc : Cond) (a : Word) (s : State),
    exec (Instr.callIf cc a) s =
      .next (if holds cc s then jumpTo (pushed { s with branchTaken := true } s.regs.pc) a else s) ∧
    exec (Instr.retIf cc) s =
      .next
        (if holds cc s then
          { s with branchTaken := true, regs := { s.regs with sp := s.regs.sp + 2, pc := popped s } }
        else s) ∧
    encode (Instr.callIf cc a) = [0b110#3 ++ condCode cc ++ 0b100#3, lowByte a, highByte a] ∧
    encode (Instr.retIf cc) = [0b110#3 ++ condCode cc ++ 0b000#3] ∧
    ∀ taken, cost (Instr.callIf cc a) taken = (if taken then 24 else 12) ∧
      cost (Instr.retIf cc) taken = (if taken then 20 else 8)

/-! ## System instructions -/

/-- 45_system.md R275 to R279: EI sets IME at once, so a pending interrupt is serviced at the next processor step; STOP
ignores its second byte. -/
def Obligations.SystemInstructions : Prop :=
  ∀ (b : Byte) (s : State),
    exec .nop s = .next s ∧ exec .halt s = .next { s with halted := true } ∧
    exec (.stop b) s = .next { s with halted := true } ∧ exec .di s = .next { s with ime := false } ∧
    exec .ei s = .next { s with ime := true } ∧ servicesNext { s with ime := true } ∧
    encode .nop = [0x00] ∧ encode .halt = [0x76] ∧ encode (.stop b) = [0x10, b] ∧ encode .di = [0xF3] ∧
    encode .ei = [0xFB] ∧
    ∀ i ∈ [Instr.nop, .halt, .stop b, .di, .ei], ∀ taken, cost i taken = 4

/-- An illegal opcode raises Fatal, with the opcode's own address, and changes only the fault mark; the system step ends
there, with no display step and no controller hook (45_system.md R280). The controller's draw counter in `running` is
the model's own choice: log entry 3. -/
def Obligations.IllegalOpcodeRaisesFatal : Prop :=
  ∀ (i : Instr) (op : Byte) (s : State), (i, op) ∈ illegalSlots →
    let raised (t : State) : State :=
      { t with
        fault :=
          some { cause := .unimplementedOpcode, opcode := op, prefixed := false, address := t.regs.pc - 1 } }
    encode i = [op] ∧ exec i s = .next (raised s) ∧
    (s.fault = none → s.busRead s.regs.pc = op → ¬(s.halted = true ∧ nonePending s) → (s.ime = true → nonePending s) →
      step s = .next (raised (running s i)))

/-! ## The bus -/

/-- 20_memory.md R72, R73, R76, R78 and R82: both columns of the decode table, entry by entry, with the display registers one by
one; the DMA register's write is R90's copy. -/
def Obligations.BusDecodeTable : Prop :=
  ∀ (s : State) (a : Word) (v : Byte),
    let n := a.toNat
    let latch := s.mem.read 0xFF50 ≠ 0
    let cartWrite := { s with cart := s.cart.writeByte a v }
    (n = 0xFFFF → s.busRead a = s.ie ∧ s.busWrite a v = { s with ie := v }) ∧
    (n = 0xFF0F → s.busRead a = s.ifr ∧ s.busWrite a v = { s with ifr := v }) ∧
    (n = 0xFF00 → s.busRead a = s.ctrl.getValue ∧ s.busWrite a v = { s with ctrl := s.ctrl.setValue v }) ∧
    (plainStorage n → s.busRead a = s.mem.read n ∧ s.busWrite a v = { s with mem := s.mem.write n v }) ∧
    (echoRam n → s.busRead a = s.mem.read (n - 0x2000) ∧ s.busWrite a v = { s with mem := s.mem.write (n - 0x2000) v }) ∧
    (0xFEA0 ≤ n ∧ n ≤ 0xFEFF → s.busRead a = 0xFF ∧ s.busWrite a v = s) ∧
    (0xA000 ≤ n ∧ n ≤ 0xBFFF → s.busRead a = 0xFF ∧ s.busWrite a v = s) ∧
    (0x0100 ≤ n ∧ n ≤ 0x7FFF → s.busRead a = s.cart.readByte a ∧ s.busWrite a v = cartWrite) ∧
    (n ≤ 0x00FF ∧ latch → s.busRead a = s.cart.readByte a ∧ s.busWrite a v = cartWrite) ∧
    (n ≤ 0x00FF ∧ ¬latch → s.busRead a = s.bootRom.read n ∧ s.busWrite a v = s) ∧
    (∀ x, (a, x) ∈ displayRead s.lcd → s.busRead a = x) ∧
    (∀ d, (a, d) ∈ displayWrite s.lcd v → s.busWrite a v = { s with lcd := d }) ∧
    (n = 0xFF46 → s.busWrite a v = dmaCopied s v)

/-- A byte written to plain storage is read back, and echo RAM and work RAM are one storage, whichever of the two
addresses is written (derived from 20_memory.md R72, R75 and R94). That the write keeps the memory's canonical form is
the model's choice of representation (log entry 1), no rule of the spec. -/
def Obligations.StorageReadsBackThroughEveryAlias : Prop :=
  ∀ (s : State) (a : Word) (v : Byte), s.mem.wf = true → storage a →
    (s.busWrite a v).busRead a = v ∧
    (echoRam a.toNat → (s.busWrite a v).busRead (a - 0x2000) = v) ∧
    (0xC000 ≤ a.toNat ∧ a.toNat ≤ 0xDDFF → (s.busWrite a v).busRead (a + 0x2000) = v) ∧
    (s.busWrite a v).mem.wf = true

/-- 20_memory.md R90: after a write of v to 0xFF46 every OAM byte is the byte that a bus read of the source page
gave before the write, for every page, OAM's own page included; nothing else changes, and the value is not stored. -/
def Obligations.OamDmaCopiesOnePage : Prop :=
  ∀ (s : State) (v : Byte), s.mem.wf = true →
    let t := s.busWrite 0xFF46 v
    (∀ i, i < 160 → t.mem.read (0xFE00 + i) = s.busRead (BitVec.ofNat 16 (v.toNat * 256 + i))) ∧
    (∀ n, n < 0xFE00 ∨ 0xFE9F < n → t.mem.read n = s.mem.read n) ∧ t = { s with mem := t.mem } ∧
    t.busRead 0xFF46 = 0xFF

/-- 20_memory.md R73, as a frame: a bus write leaves every byte of the address space it does not reach. -/
def Obligations.BusWriteLeavesOtherAddresses : Prop :=
  ∀ (s : State) (b a : Word) (v : Byte), s.mem.wf = true → ¬reaches s b a → (s.busWrite b v).busRead a = s.busRead a

/-- Every instruction's memory frame: an address that no stored byte reaches reads as before, for every instruction; an
instruction that stores nothing leaves the whole address space. `stores` lists the addresses, computed as the rules of
40_load.md to 44_control.md give them. -/
def Obligations.InstructionsStoreOnlyWhereTheySay : Prop :=
  ∀ (i : Instr) (s t : State) (a : Word), s.mem.wf = true → exec i s = .next t →
    (∀ b ∈ stores i s, ¬reaches s b a) → t.busRead a = s.busRead a

/-- 40_load.md R161: on a stack in plain storage a pop after a push gives the value back and the stack pointer too, for
every pair of registers (AF loses bits 3..0 of F). -/
def Obligations.PopAfterPushRestores : Prop :=
  ∀ (p q : StackPair) (s t u : State), s.mem.wf = true → storage (s.regs.sp - 1) → storage (s.regs.sp - 2) →
    exec (Instr.push p) s = .next t → exec (Instr.pop q) t = .next u →
      u.regs.getStack q = (if q = .af then s.regs.getStack p &&& 0xFFF0 else s.regs.getStack p) ∧
      u.regs.sp = s.regs.sp ∧ t.regs.sp = s.regs.sp - 2 ∧
      t.busRead (s.regs.sp - 1) = highByte (s.regs.getStack p) ∧ t.busRead (s.regs.sp - 2) = lowByte (s.regs.getStack p)

/-! ## Frames over all instructions -/

/-- No instruction changes what only the display controller changes: LY, the mode, the accumulator, the two buffers,
STAT[2:0] and the video sink (log entry 4); nor BOOT_ROM, nor the controller hook's count (log entry 12). Derived from
20_memory.md R95, 10_state.md R48, R53, R57 and 70_reset_and_hazards.md R391. -/
def Obligations.InstructionsLeaveDisplayState : Prop :=
  ∀ (i : Instr) (s t : State), exec i s = .next t →
    t.lcd.ly = s.lcd.ly ∧ t.lcd.mode = s.lcd.mode ∧ t.lcd.acc = s.lcd.acc ∧ t.lcd.fb = s.lcd.fb ∧
    t.lcd.bgi = s.lcd.bgi ∧ t.lcd.stat.extractLsb' 0 3 = s.lcd.stat.extractLsb' 0 3 ∧ t.sink = s.sink ∧
    t.bootRom = s.bootRom ∧ t.ctrl.ticks = s.ctrl.ticks

/-- Who writes IME, halted and branch_taken: EI, RETI and DI; HALT and STOP; a conditional transfer whose condition
holds. No other instruction does (10_state.md R38, R43, R44). -/
def Obligations.ControlBitWriters : Prop :=
  ∀ (i : Instr) (s t : State), exec i s = .next t →
    t.ime = (if i = .ei ∨ i = .reti then true else if i = .di then false else s.ime) ∧
    t.halted = (s.halted || decide (i = .halt ∨ ∃ b, i = .stop b)) ∧
    (t.branchTaken = true ↔ s.branchTaken = true ∨
      ∃ cc, holds cc s = true ∧
        (i = Instr.retIf cc ∨ ∃ a b, i = Instr.jpIf cc a ∨ i = Instr.jrIf cc b ∨ i = Instr.callIf cc a))

/-- Who writes the flags: an instruction that is none of those 10_state.md R36 lists leaves F (derived: R36 is the
spec's own summary of its instruction rules). -/
def Obligations.OtherInstructionsLeaveFlags : Prop :=
  ∀ (i : Instr) (s t : State), exec i s = .next t →
    (∀ op o d, i ≠ Instr.alu op o ∧ i ≠ Instr.aluImm op d) → (∀ o, i ≠ Instr.inc8 o ∧ i ≠ Instr.dec8 o) →
    i ∉ [Instr.daa, .cpl, .scf, .ccf, .rlca, .rrca, .rla, .rra, .pop_AF] → (∀ p, i ≠ Instr.addHL p) →
    (∀ e, i ≠ .add_SP_e8 e ∧ i ≠ .ld_HL_SPe8 e) → (∀ op o, i ≠ Instr.rotate op o) →
    (∀ b o, i ≠ Instr.bitTest b o) → t.regs.f = s.regs.f

/-! ## The processor step and the system step -/

/-- A processor step idles, services the lowest pending and enabled kind, or executes the instruction at PC; waking clears
halted and costs nothing (60_exceptions.md R300, R310, R317). The controller's draw counter in `running` is the model's
own choice: log entry 3. -/
def Obligations.ProcessorStepIdlesServicesOrExecutes : Prop :=
  ∀ s : State,
    (s.halted = true → nonePending s → cpuTick s = .next (s, some 4)) ∧
    (∀ k, s.ime = true → lowestPending s k →
      cpuTick s = .next (serviced { s with halted := false } k, some 20)) ∧
    (¬(s.halted = true ∧ nonePending s) → (s.ime = true → nonePending s) →
      ∀ i rest t, decodeBytes (bytesAtPc s) = .ok (i, rest) → exec i (running s i) = .next t →
        cpuTick s = .next (t, if t.fault.isSome then none else some (cost i t.branchTaken)))

/-- The display step and the controller hook follow the processor step; none follows a Fatal; a faulted state never
changes (60_exceptions.md R370, R304). The controller's draw counter in `finished` is the model's own choice: log
entry 3. -/
def Obligations.SystemStepOrder : Prop :=
  ∀ s : State,
    (s.fault ≠ none → step s = .next s) ∧
    (s.fault = none →
      (∀ t n, cpuTick s = .next (t, some n) → step s = .next (finished t n)) ∧
      (∀ t, cpuTick s = .next (t, none) → step s = .next t ∧ t.fault ≠ none) ∧
      ∃ t n, cpuTick s = .next (t, n))

/-- A step runs the decoded instruction: when nothing keeps the processor from executing and the bytes at PC decode to
i, the step is i's own effect on the state past its bytes, then the display step with i's cost and the controller hook,
unless i raised Fatal (30_encoding.md R111, R118; 60_exceptions.md R300, R370). The controller's draw counter in
`running` and `finished` is the model's own choice: log entry 3. -/
def Obligations.StepRunsDecodedInstruction : Prop :=
  ∀ (s : State) (i : Instr) (rest : List Byte), s.fault = none → ¬(s.halted = true ∧ nonePending s) →
    (s.ime = true → nonePending s) → decodeBytes (bytesAtPc s) = .ok (i, rest) →
      ∃ t, exec i (running s i) = .next t ∧
        step s = .next (if t.fault = none then finished t (cost i t.branchTaken) else t)

/-- 60_exceptions.md R312: the lowest pending kind is serviced for 20 cycles. Only PC is saved; IME is cleared and the
request acknowledged; PC goes to the vector; IE and IF keep their values unless the push lands on them, and then take
the pushed byte; on a stack in plain storage the two bytes of PC are read back. -/
def Obligations.InterruptEntrySavesPcOnly : Prop :=
  ∀ (s : State) (k : Nat), s.ime = true → lowestPending s k →
    ∃ t, cpuTick s = .next (t, some 20) ∧ t = serviced { s with halted := false } k ∧
      t.ime = false ∧ t.halted = false ∧ t.regs.pc = 0x0040 + BitVec.ofNat 16 (8 * k) ∧
      t.regs = { s.regs with sp := s.regs.sp - 2, pc := t.regs.pc } ∧
      t.ie =
        (if s.regs.sp - 1 = 0xFFFF then highByte s.regs.pc
        else if s.regs.sp - 2 = 0xFFFF then lowByte s.regs.pc else s.ie) ∧
      t.ifr =
        (if s.regs.sp - 1 = 0xFF0F then highByte s.regs.pc
        else if s.regs.sp - 2 = 0xFF0F then lowByte s.regs.pc else s.ifr &&& ~~~(1#8 <<< k)) ∧
      (s.mem.wf = true → storage (s.regs.sp - 1) → storage (s.regs.sp - 2) →
        t.busRead (s.regs.sp - 1) = highByte s.regs.pc ∧ t.busRead (s.regs.sp - 2) = lowByte s.regs.pc)

/-- An interrupt handler that only runs RETI returns to where the program was, with every register and IME as they were
(derived from 60_exceptions.md R312, R316 and 44_control.md R259). -/
def Obligations.ReturnUndoesInterruptEntry : Prop :=
  ∀ (s u : State) (k : Nat), s.mem.wf = true → storage (s.regs.sp - 1) → storage (s.regs.sp - 2) → s.ime = true →
    exec .reti (serviced s k) = .next u → u.regs = s.regs ∧ u.ime = true ∧ u.ie = s.ie ∧ u.halted = s.halted

/-- From a final state the processor state and MEM never change again, and the state stays final (60_exceptions.md
R374). -/
def Obligations.FinalStateIsKept : Prop :=
  ∀ s t : State, s.fault = none → s.halted = true → (s.ie &&& 0x1F) = 0 → step s = .next t →
    t.fault = none ∧ t.halted = true ∧ t.regs = s.regs ∧ t.mem = s.mem ∧ t.ime = s.ime ∧ t.ie = s.ie ∧
    t.branchTaken = s.branchTaken ∧ t.ifr.extractLsb' 2 6 = s.ifr.extractLsb' 2 6

/-- Every step keeps the machine's invariant `Inv` of Safety.lean: canonical memory images, F[3:0] = 0 (10_state.md
R35), STAT[1:0] the encoding of the mode and acc below its budget (R57), LY on its lines (R53). -/
def Obligations.InvariantKeptByEveryStep : Prop :=
  ∀ s t : State, Inv s → step s = .next t → Inv t

/-- The invariant holds at reset, for every well-formed choice of the open parameters. -/
def Obligations.InvariantHoldsAtReset : Prop :=
  (∀ p, WellFormed.params p = true → Inv (State.resetWith p)) ∧ Inv State.reset

/-- 70_reset_and_hazards.md R380, for every choice of the open parameters. -/
def Obligations.ResetValues : Prop :=
  ∀ p : ResetParams, p.initMem.wf = true →
    let s := State.resetWith p
    (∀ n, s.regs.get8 n = p.regs.get8 n) ∧ s.regs.f = p.regs.f &&& 0xF0 ∧ s.regs.sp = p.regs.sp ∧ s.regs.pc = 0 ∧
    s.ime = false ∧ s.ie = 0 ∧ s.ifr = 0 ∧ s.halted = false ∧ s.branchTaken = false ∧ s.fault = none ∧
    (∀ n, s.mem.read n = if n = 0xFF50 then 0 else p.initMem.read n) ∧ s.bootRom = p.bootRom ∧ s.cart = p.cart ∧
    s.ctrl.source = p.source ∧
    (∀ r ∈ [s.lcd.lcdc, s.lcd.scy, s.lcd.scx, s.lcd.ly, s.lcd.lyc, s.lcd.bgp, s.lcd.obp0, s.lcd.obp1, s.lcd.wy,
        s.lcd.wx], r = 0) ∧
    s.lcd.stat = 0x02 ∧ s.lcd.mode = .oam ∧ s.lcd.acc = 0 ∧
    ∀ y x, s.lcd.fb.get y x = 0 ∧ s.lcd.bgi.get y x = 0

/-! ## The display controller -/

/-- 60_exceptions.md R343 and R344: cycles accumulate; when the accumulator reaches the mode's budget, the budget is
subtracted, the phase ends, and the loop goes on; within a budget, no phase ends; `disp_tick(0)` changes nothing. -/
def Obligations.DisplayStepLoop : Prop :=
  ∀ (s : State) (n : Nat),
    (s.lcd.acc + n < budget s.lcd.mode → s.dispTick n = withAcc s (s.lcd.acc + n)) ∧
    (budget s.lcd.mode ≤ s.lcd.acc + n →
      s.dispTick n = (withAcc s (s.lcd.acc + n - budget s.lcd.mode)).endOfPhase.dispTick 0) ∧
    (s.lcd.acc < budget s.lcd.mode → s.dispTick 0 = s)

/-- What the end of each phase does, and that it does nothing else (derived from 60_exceptions.md R345 to R350). Two
clauses are the model's choice. The `paint` event of R350 is recorded in the video sink, as a count and the last frame
(log entry 4). In HBLANK at LY 144 to 255 no background line is drawn, and at LY 255 in HBLANK or VBLANK LY wraps to 0;
no run reaches such a state (log entry 11). -/
def Obligations.PhaseTransitions : Prop :=
  ∀ s : State,
    (s.lcd.mode = .oam → s.endOfPhase = inMode s .vram) ∧
    (s.lcd.mode = .vram →
      s.endOfPhase =
        inMode
          { s with
            ifr :=
              if s.lcd.stat.getLsbD 3 = true ∨ (s.lcd.stat.getLsbD 6 = true ∧ s.lcd.ly = s.lcd.lyc) then s.ifr ||| 0x02
              else s.ifr
            lcd :=
              { s.lcd with
                stat :=
                  s.lcd.stat.extractLsb' 3 5 ++ BitVec.ofBool (decide (s.lcd.ly = s.lcd.lyc)) ++
                    s.lcd.stat.extractLsb' 0 2 } }
          .hblank) ∧
    (s.lcd.mode = .hblank →
      s.endOfPhase =
        (let t := withLy (s.renderBgLine s.lcd.ly.toNat) (s.lcd.ly + 1)
        if (s.lcd.ly + 1).toNat < 144 then inMode t .oam else inMode { t with ifr := s.ifr ||| 0x01 } .vblank)) ∧
    (s.lcd.mode = .vblank →
      s.endOfPhase =
        if s.lcd.ly + 1 = 154 then
          inMode
            (withLy
              { s.renderSprites with
                sink := { paints := s.sink.paints + 1, lastFrame := some s.renderSprites.lcd.fb } } 0) .oam
        else inMode (withLy s (s.lcd.ly + 1)) .vblank)

/-- The display step is additive: how the cycles are cut into steps does not matter (derived from 60_exceptions.md R343
and R351). -/
def Obligations.DisplayStepsCompose : Prop :=
  ∀ (s : State) (m n : Nat), s.dispTick (m + n) = (s.dispTick m).dispTick n

/-- The frame's timing, from the start of any frame, whatever the registers hold: VBLANK is requested at cycle 65664,
when LY becomes 144, with no `paint` before; after 70224 cycles the next frame starts, `paint` has been emitted exactly
once, and its frame is FB (derived from 60_exceptions.md R344, R348, R350, R352). The sink that `paint` is counted in,
with its last frame, is the model's record of the event (log entry 4). -/
def Obligations.FrameTakes70224Cycles : Prop :=
  ∀ s : State, s.lcd.mode = .oam → s.lcd.ly = 0 → s.lcd.acc = 0 →
    (∀ n, n < 65664 → (s.dispTick n).lcd.ly.toNat = n / 456 ∧ (s.dispTick n).sink = s.sink ∧
      (s.dispTick n).ifr.getLsbD 0 = s.ifr.getLsbD 0) ∧
    (let t := s.dispTick 65664;
      t.lcd.mode = .vblank ∧ t.lcd.ly = 144 ∧ t.lcd.acc = 0 ∧ t.ifr.getLsbD 0 = true ∧ t.sink = s.sink) ∧
    (let t := s.dispTick 70224;
      t.lcd.mode = .oam ∧ t.lcd.ly = 0 ∧ t.lcd.acc = 0 ∧
      t.sink = { paints := s.sink.paints + 1, lastFrame := some t.lcd.fb })

/-- The display step's frame: it changes only the display state, the video sink and IF[1:0], and clears no IF bit
(derived from 20_memory.md R95 and 60_exceptions.md R345 to R350). The video sink is the model's record (log entry 4). -/
def Obligations.DisplayStepChangesOnlyDisplayState : Prop :=
  ∀ (s : State) (n : Nat),
    let t := s.dispTick n
    t = { s with ifr := t.ifr, lcd := t.lcd, sink := t.sink } ∧
    t.ifr.extractLsb' 2 6 = s.ifr.extractLsb' 2 6 ∧ s.ifr &&& t.ifr = s.ifr ∧
    t.lcd.stat.extractLsb' 3 5 = s.lcd.stat.extractLsb' 3 5 ∧
    t.lcd =
      { s.lcd with
        stat := t.lcd.stat, ly := t.lcd.ly, mode := t.lcd.mode, acc := t.lcd.acc, fb := t.lcd.fb, bgi := t.lcd.bgi }

/-- 60_exceptions.md R354, R355 and R358: every pixel of the line drawn, its raw index and its shade, and every other
line as before. -/
def Obligations.BackgroundLinePixels : Prop :=
  ∀ (s : State) (line y x : Nat), line < 144 → y < 144 → x < 160 →
    let t := s.renderBgLine line
    t.lcd.bgi.get y x = (if y = line then backgroundIndex s line x else s.lcd.bgi.get y x) ∧
    t.lcd.fb.get y x =
      (if y = line then paletteShade s.lcd.bgp (backgroundIndex s line x) else s.lcd.fb.get y x) ∧
    t = { s with lcd := { s.lcd with fb := t.lcd.fb, bgi := t.lcd.bgi } }

/-- 60_exceptions.md R359 to R363, pixel by pixel: where no OAM entry draws, FB is as before; where some do, FB takes
the shade of the entry with the highest index; nothing else changes. -/
def Obligations.SpritePixels : Prop :=
  ∀ (s : State) (y x : Nat), y < 144 → x < 160 →
    let t := s.renderSprites
    ((∀ i, i < 40 → spriteShade s i y x = none) → t.lcd.fb.get y x = s.lcd.fb.get y x) ∧
    (∀ i c, i < 40 → spriteShade s i y x = some c → (∀ j, i < j → j < 40 → spriteShade s j y x = none) →
      t.lcd.fb.get y x = c) ∧
    t = { s with lcd := { s.lcd with fb := t.lcd.fb } }
end

