-- ==== Sys2Proof/Laws/Bits.lean ====
section
/-! SUPPORT. The bytes of a word, as numbers (00_scope.md R18), and bit masks. -/

namespace Sys2Proof.Machine

theorem pack_toNat (h l : Byte) : (pack h l).toNat = h.toNat * 256 + l.toNat := by
  unfold pack
  erw [BitVec.toNat_append]
  rw [Nat.shiftLeft_eq, Nat.mul_comm, ← Nat.two_pow_add_eq_or_of_lt l.isLt, Nat.mul_comm]

theorem hi_toNat (v : Word) : (hi v).toNat = v.toNat / 256 := by
  simp [hi, Nat.shiftRight_eq_div_pow]
  omega

theorem lo_toNat (v : Word) : (lo v).toNat = v.toNat % 256 := by
  simp [lo]

@[simp] theorem hi_pack (h l : Byte) : hi (pack h l) = h := by
  apply BitVec.eq_of_toNat_eq
  rw [hi_toNat, pack_toNat]
  omega

@[simp] theorem lo_pack (h l : Byte) : lo (pack h l) = l := by
  apply BitVec.eq_of_toNat_eq
  rw [lo_toNat, pack_toNat]
  omega

@[simp] theorem pack_hi_lo (v : Word) : pack (hi v) (lo v) = v := by
  apply BitVec.eq_of_toNat_eq
  rw [pack_toNat, hi_toNat, lo_toNat]
  omega

/-- F's mask leaves bits 3..0 zero. -/
@[simp] theorem mask_low (v : Byte) : v &&& 0xF0 &&& 0x0F = 0 := by
  rw [BitVec.and_assoc]
  simp

end Sys2Proof.Machine
end

