-- ==== Sys2Proof/Laws/Memory.lean ====
section
/-! SUPPORT. What the sparse storage of Machine/Memory.lean does: read after write, and the canonical form. -/

namespace Sys2Proof.Machine

@[simp] theorem Memory.read_nil (a : Nat) : Memory.read [] a = Memory.unlisted := rfl

theorem Memory.read_cons (k : Nat) (w : Byte) (rest : Memory) (a : Nat) :
    Memory.read ((k, w) :: rest) a = if k = a then w else Memory.read rest a := rfl

theorem Memory.canonical_cons {bound low k : Nat} {w : Byte} {rest : Memory} :
    Memory.canonical bound low ((k, w) :: rest) = true ↔
      low ≤ k ∧ k < bound ∧ w ≠ Memory.unlisted ∧ Memory.canonical bound (k + 1) rest = true := by
  simp [Memory.canonical, and_assoc]

/-- A canonical list stays canonical for a smaller first address. -/
theorem Memory.canonical_mono {bound low low' : Nat} {m : Memory} (h : low' ≤ low)
    (hm : Memory.canonical bound low m = true) : Memory.canonical bound low' m = true := by
  cases m with
  | nil => rfl
  | cons cell rest =>
    obtain ⟨k, w⟩ := cell
    rw [Memory.canonical_cons] at hm ⊢
    exact ⟨h.trans hm.1, hm.2⟩

/-- Below its first address a canonical list reads as unlisted. -/
theorem Memory.read_below {bound low a : Nat} {m : Memory} (hm : Memory.canonical bound low m = true) (h : a < low) :
    m.read a = Memory.unlisted := by
  induction m generalizing low with
  | nil => rfl
  | cons cell rest ih =>
    obtain ⟨k, w⟩ := cell
    rw [Memory.canonical_cons] at hm
    rw [Memory.read_cons, if_neg (by omega)]
    exact ih hm.2.2.2 (by omega)

theorem Memory.read_consCell {bound k : Nat} {v : Byte} {m : Memory} (hm : Memory.canonical bound (k + 1) m = true)
    (a : Nat) : (Memory.consCell k v m).read a = if k = a then v else m.read a := by
  unfold Memory.consCell
  split
  · next h =>
    split
    · next hk => rw [h, ← hk]; exact Memory.read_below hm (Nat.lt_succ_self k)
    · rfl
  · rfl

theorem Memory.canonical_consCell {bound low k : Nat} {v : Byte} {m : Memory} (hl : low ≤ k) (hb : k < bound)
    (hm : Memory.canonical bound (k + 1) m = true) : Memory.canonical bound low (Memory.consCell k v m) = true := by
  unfold Memory.consCell
  split
  · exact Memory.canonical_mono (by omega) hm
  · next h => exact Memory.canonical_cons.2 ⟨hl, hb, h, hm⟩

/-- A write keeps the canonical form. -/
theorem Memory.canonical_write {bound low a : Nat} {m : Memory} (v : Byte) (hm : Memory.canonical bound low m = true)
    (hl : low ≤ a) (hb : a < bound) : Memory.canonical bound low (m.write a v) = true := by
  induction m generalizing low with
  | nil => exact Memory.canonical_consCell hl hb rfl
  | cons cell rest ih =>
    obtain ⟨k, w⟩ := cell
    have hc := Memory.canonical_cons.1 hm
    unfold Memory.write
    split
    · next hk => exact Memory.canonical_cons.2 ⟨hc.1, hc.2.1, hc.2.2.1, ih hc.2.2.2 hk⟩
    · split
      · next hk => subst hk; exact Memory.canonical_consCell hl hb hc.2.2.2
      · exact Memory.canonical_consCell hl hb (Memory.canonical_cons.2 ⟨by omega, hc.2⟩)

/-- What a read after a write gives, in a canonical list: the written byte there, and elsewhere what was there. -/
theorem Memory.read_write {bound low a : Nat} {m : Memory} (v : Byte) (hm : Memory.canonical bound low m = true)
    (b : Nat) : (m.write a v).read b = if a = b then v else m.read b := by
  induction m generalizing low with
  | nil => exact Memory.read_consCell (bound := bound) rfl b
  | cons cell rest ih =>
    obtain ⟨k, w⟩ := cell
    have hc := Memory.canonical_cons.1 hm
    unfold Memory.write
    split
    · next hk =>
      rw [Memory.read_cons, Memory.read_cons, ih hc.2.2.2]
      split <;> split <;> first | rfl | omega
    · split
      · next hk => subst hk; rw [Memory.read_consCell hc.2.2.2, Memory.read_cons]; split <;> rfl
      · exact Memory.read_consCell (Memory.canonical_cons.2 ⟨by omega, hc.2⟩) b

theorem Memory.wf_write {m : Memory} {a : Nat} (v : Byte) (hm : m.wf = true) (ha : a < 0x10000) :
    (m.write a v).wf = true := Memory.canonical_write v hm (Nat.zero_le a) ha

theorem Memory.wf_read_write {m : Memory} (hm : m.wf = true) (a : Nat) (v : Byte) (b : Nat) :
    (m.write a v).read b = if a = b then v else m.read b := Memory.read_write v hm b

theorem Memory.wf_read_write_same {m : Memory} (hm : m.wf = true) (a : Nat) (v : Byte) : (m.write a v).read a = v := by
  rw [Memory.wf_read_write hm, if_pos rfl]

theorem Memory.wf_read_write_other {m : Memory} (hm : m.wf = true) {a b : Nat} (v : Byte) (h : a ≠ b) :
    (m.write a v).read b = m.read b := by
  rw [Memory.wf_read_write hm, if_neg h]

/-- Canonical lists that read alike are equal. -/
theorem Memory.canonical_ext {bound low : Nat} {m m' : Memory} (hm : Memory.canonical bound low m = true)
    (hm' : Memory.canonical bound low m' = true) (h : ∀ a, m.read a = m'.read a) : m = m' := by
  induction m generalizing low m' with
  | nil =>
    cases m' with
    | nil => rfl
    | cons cell rest =>
      obtain ⟨k, w⟩ := cell
      have := h k
      rw [Memory.read_nil, Memory.read_cons, if_pos rfl] at this
      exact absurd this.symm (Memory.canonical_cons.1 hm').2.2.1
  | cons cell rest ih =>
    obtain ⟨k, w⟩ := cell
    have hc := Memory.canonical_cons.1 hm
    cases m' with
    | nil =>
      have := h k
      rw [Memory.read_nil, Memory.read_cons, if_pos rfl] at this
      exact absurd this hc.2.2.1
    | cons cell' rest' =>
      obtain ⟨k', w'⟩ := cell'
      have hc' := Memory.canonical_cons.1 hm'
      have hk : k = k' := by
        rcases Nat.lt_trichotomy k k' with hlt | heq | hlt
        · have := h k
          rw [Memory.read_cons, if_pos rfl, Memory.read_cons, if_neg (by omega),
            Memory.read_below hc'.2.2.2 (by omega)] at this
          exact absurd this hc.2.2.1
        · exact heq
        · have := h k'
          rw [Memory.read_cons, if_neg (by omega), Memory.read_cons, if_pos rfl,
            Memory.read_below hc.2.2.2 (by omega)] at this
          exact absurd this.symm hc'.2.2.1
      subst hk
      have hw : w = w' := by simpa [Memory.read_cons] using h k
      subst hw
      congr 1
      refine ih hc.2.2.2 hc'.2.2.2 fun a => ?_
      have ha := h a
      rw [Memory.read_cons, Memory.read_cons] at ha
      split at ha
      · next hka =>
        rw [Memory.read_below hc.2.2.2 (by omega), Memory.read_below hc'.2.2.2 (by omega)]
      · exact ha

end Sys2Proof.Machine
end

