-- ==== Sys2Proof/Laws/Bus.lean ====
section
/-! SUPPORT. The bus decoder (20_memory.md R72): which addresses a region holds, what a read depends on, and everything
a write can do. -/

namespace Sys2Proof.Machine

/-! ### The ranges of R72 -/

/-- The range column of R72. -/
def Region.Holds (n : Nat) : Region → Prop
  | .intEnable => n = 0xFFFF
  | .highRam => 0xFF80 ≤ n ∧ n ≤ 0xFFFE
  | .bootLatch => n = 0xFF50
  | .display => 0xFF40 ≤ n ∧ n ≤ 0xFF4B
  | .audio => 0xFF10 ≤ n ∧ n ≤ 0xFF3F
  | .intFlag => n = 0xFF0F
  | .timer => 0xFF04 ≤ n ∧ n ≤ 0xFF07
  | .serial => 0xFF01 ≤ n ∧ n ≤ 0xFF02
  | .controller => n = 0xFF00
  | .unusable => 0xFEA0 ≤ n ∧ n ≤ 0xFEFF
  | .oam => 0xFE00 ≤ n ∧ n ≤ 0xFE9F
  | .echo => 0xE000 ≤ n ∧ n ≤ 0xFDFF
  | .workRam => 0xC000 ≤ n ∧ n ≤ 0xDFFF
  | .cartRam => 0xA000 ≤ n ∧ n ≤ 0xBFFF
  | .videoRam => 0x8000 ≤ n ∧ n ≤ 0x9FFF
  | .cartRom => 0x0100 ≤ n ∧ n ≤ 0x7FFF
  | .bootWindow => n ≤ 0x00FF
  | .unlistedIo => n = 0xFF03 ∨ (0xFF08 ≤ n ∧ n ≤ 0xFF0E) ∨ (0xFF4C ≤ n ∧ n ≤ 0xFF4F) ∨ (0xFF51 ≤ n ∧ n ≤ 0xFF7F)

theorem Region.holds_ite {c : Prop} [Decidable c] {r r' : Region} {n : Nat} (h : c → r.Holds n)
    (h' : ¬c → r'.Holds n) : (if c then r else r').Holds n := by
  split <;> simp_all

/-- A number below 0x10000 lies in the range of its region. -/
theorem regionOfNat_holds {n : Nat} (h : n < 0x10000) : (regionOfNat n).Holds n := by
  unfold regionOfNat
  repeat refine Region.holds_ite id fun _ => ?_
  unfold Region.Holds
  omega

/-- An address lies in the range of its region. -/
theorem regionOf_holds (a : Word) : (regionOf a).Holds a.toNat := regionOfNat_holds a.isLt

/-- The ranges are disjoint. -/
theorem Region.holds_unique {n : Nat} {r r' : Region} (h : r.Holds n) (h' : r'.Holds n) : r = r' := by
  cases r <;> cases r' <;> simp only [Region.Holds] at h h' <;> first | rfl | omega

/-- A region is the one whose range holds the address. -/
theorem regionOf_eq_iff {a : Word} {r : Region} : regionOf a = r ↔ r.Holds a.toNat :=
  ⟨fun h => h ▸ regionOf_holds a, fun h => Region.holds_unique (regionOf_holds a) h⟩

/-! ### Plain storage -/

/-- A plain cell's index is the address, or for echo RAM the address 0x2000 below (10_state.md R46, 20_memory.md
R75). -/
theorem plainCell_cases {a : Word} {k : Nat} (h : plainCell a = some k) :
    (k = a.toNat ∧ regionOf a ≠ .echo) ∨ (k = a.toNat - 0x2000 ∧ regionOf a = .echo) := by
  unfold plainCell at h
  generalize regionOf a = r at h
  cases r
  case echo => exact .inr ⟨(Option.some.inj h).symm, rfl⟩
  all_goals first
    | exact .inl ⟨(Option.some.inj h).symm, nofun⟩
    | simp only [reduceCtorEq] at h

theorem plainCell_lt {a : Word} {k : Nat} (h : plainCell a = some k) : k < 0x10000 := by
  have := a.isLt
  rcases plainCell_cases h with ⟨hk, -⟩ | ⟨hk, -⟩ <;> omega

theorem State.busRead_plain {s : State} {a : Word} {k : Nat} (h : plainCell a = some k) :
    s.busRead a = s.mem.read k := by
  unfold plainCell at h
  unfold State.busRead
  generalize regionOf a = r at h
  cases r <;> first
    | exact congrArg s.mem.read (Option.some.inj h)
    | simp only [reduceCtorEq] at h

theorem State.busWrite_plain {s : State} {a : Word} {k : Nat} (h : plainCell a = some k) (v : Byte) :
    s.busWrite a v = s.setCell k v := by
  unfold plainCell at h
  unfold State.busWrite
  generalize regionOf a = r at h
  cases r <;> first
    | exact congrArg (s.setCell · v) (Option.some.inj h)
    | simp only [reduceCtorEq] at h

/-! ### The OAM copy (R90) -/

/-- The copy changes MEM only. -/
theorem dmaBytes_eq (src : Word) (n : Nat) (s : State) :
    dmaBytes src n s = { s with mem := (dmaBytes src n s).mem } := by
  induction n with
  | zero => rfl
  | succ n ih => unfold dmaBytes; rw [ih]; rfl

theorem dmaBytes_wf (src : Word) {n : Nat} (hn : n ≤ 160) {s : State} (hs : s.mem.wf = true) :
    (dmaBytes src n s).mem.wf = true := by
  induction n with
  | zero => exact hs
  | succ n ih => exact Memory.wf_write _ (ih (by omega)) (by omega)

/-! ### Everything a bus write can do (R72, R73) -/

/-- The outcomes of a bus write: one of IE, IF, one cell of plain storage, the OAM copy, a display register other than
LY, the controller, the cartridge, or nothing. -/
theorem State.busWrite_cases (s : State) (a : Word) (v : Byte) :
    s.busWrite a v = s ∨ s.busWrite a v = { s with ie := v } ∨ s.busWrite a v = { s with ifr := v } ∨
    (∃ k, k < 0x10000 ∧ s.busWrite a v = s.setCell k v) ∨ s.busWrite a v = s.dmaCopy v ∨
    s.busWrite a v = { s with lcd := s.lcd.writeReg a v } ∨ s.busWrite a v = { s with ctrl := s.ctrl.setValue v } ∨
    s.busWrite a v = { s with cart := s.cart.writeByte a v } := by
  have := a.isLt
  unfold State.busWrite
  split
  case h_3 => split <;> simp
  case h_8 => split <;> simp
  case h_9 => exact .inr (.inr (.inr (.inl ⟨_, by omega, rfl⟩)))
  all_goals first
    | exact .inr (.inr (.inr (.inl ⟨_, this, rfl⟩)))
    | simp

/-- What only the display controller changes: LY, the mode, the accumulator, the buffers and STAT[2:0]. -/
def Display.SameTiming (d e : Display) : Prop :=
  e.ly = d.ly ∧ e.mode = d.mode ∧ e.acc = d.acc ∧ e.fb = d.fb ∧ e.bgi = d.bgi ∧ e.stat &&& 0x07 = d.stat &&& 0x07

theorem Display.sameTiming_ite {c : Prop} [Decidable c] {d e e' : Display} (h : d.SameTiming e) (h' : d.SameTiming e') :
    d.SameTiming (if c then e else e') := by
  split
  · exact h
  · exact h'

/-- A display register write leaves that. -/
theorem Display.writeReg_keeps (d : Display) (a : Word) (v : Byte) : d.SameTiming (d.writeReg a v) := by
  have stat : ((v &&& 0xF8) ||| (d.stat &&& 0x07)) &&& 0x07 = d.stat &&& 0x07 := by
    apply BitVec.eq_of_getLsbD_eq
    intro i hi
    have : i = 0 ∨ i = 1 ∨ i = 2 ∨ i = 3 ∨ i = 4 ∨ i = 5 ∨ i = 6 ∨ i = 7 := by omega
    rcases this with h | h | h | h | h | h | h | h <;> subst h <;> simp
  unfold Display.writeReg
  repeat refine Display.sameTiming_ite (by first
    | exact ⟨rfl, rfl, rfl, rfl, rfl, rfl⟩
    | exact ⟨rfl, rfl, rfl, rfl, rfl, stat⟩) ?_
  exact ⟨rfl, rfl, rfl, rfl, rfl, rfl⟩

/-! ### What a bus write leaves -/

/-- The registers, IME, halted, branch_taken, the fault mark and the sink take no part in a read. -/
theorem State.busRead_front (s : State) (r : Regs) (i h b : Bool) (f : Option FaultInfo) (a : Word) :
    { s with regs := r, ime := i, halted := h, branchTaken := b, fault := f }.busRead a = s.busRead a := rfl

theorem dmaBytes_front (s : State) (r : Regs) (i h b : Bool) (f : Option FaultInfo) (src : Word) (n : Nat) :
    dmaBytes src n { s with regs := r, ime := i, halted := h, branchTaken := b, fault := f } =
      { dmaBytes src n s with regs := r, ime := i, halted := h, branchTaken := b, fault := f } := by
  induction n with
  | zero => rfl
  | succ n ih => unfold dmaBytes; rw [ih]; rfl

/-- A bus write commutes with writes of the registers, IME, halted, branch_taken and the fault mark. -/
theorem State.busWrite_front (s : State) (r : Regs) (i h b : Bool) (f : Option FaultInfo) (a : Word) (v : Byte) :
    { s with regs := r, ime := i, halted := h, branchTaken := b, fault := f }.busWrite a v =
      { s.busWrite a v with regs := r, ime := i, halted := h, branchTaken := b, fault := f } := by
  unfold State.busWrite
  split
  case h_3 => split <;> first | exact dmaBytes_front s r i h b f _ _ | rfl
  case h_8 => show (if s.bootDisabled then _ else _) = _; split <;> rfl
  all_goals rfl

/-- A bus write leaves the registers, IME, halted, branch_taken, the fault mark, BOOT_ROM and the sink. -/
theorem State.busWrite_keeps (s : State) (a : Word) (v : Byte) :
    (s.busWrite a v).regs = s.regs ∧ (s.busWrite a v).ime = s.ime ∧ (s.busWrite a v).halted = s.halted ∧
    (s.busWrite a v).branchTaken = s.branchTaken ∧ (s.busWrite a v).fault = s.fault ∧
    (s.busWrite a v).bootRom = s.bootRom ∧ (s.busWrite a v).sink = s.sink := by
  rcases s.busWrite_cases a v with h | h | h | ⟨k, -, h⟩ | h | h | h | h <;> rw [h]
  case inr.inr.inr.inr.inl =>
    unfold State.dmaCopy
    rw [dmaBytes_eq]
    exact ⟨rfl, rfl, rfl, rfl, rfl, rfl, rfl⟩
  all_goals exact ⟨rfl, rfl, rfl, rfl, rfl, rfl, rfl⟩

@[simp] theorem State.busWrite_regs (s : State) (a : Word) (v : Byte) : (s.busWrite a v).regs = s.regs :=
  (s.busWrite_keeps a v).1
@[simp] theorem State.busWrite_ime (s : State) (a : Word) (v : Byte) : (s.busWrite a v).ime = s.ime :=
  (s.busWrite_keeps a v).2.1
@[simp] theorem State.busWrite_halted (s : State) (a : Word) (v : Byte) : (s.busWrite a v).halted = s.halted :=
  (s.busWrite_keeps a v).2.2.1
@[simp] theorem State.busWrite_branchTaken (s : State) (a : Word) (v : Byte) :
    (s.busWrite a v).branchTaken = s.branchTaken := (s.busWrite_keeps a v).2.2.2.1
@[simp] theorem State.busWrite_fault (s : State) (a : Word) (v : Byte) : (s.busWrite a v).fault = s.fault :=
  (s.busWrite_keeps a v).2.2.2.2.1
@[simp] theorem State.busWrite_bootRom (s : State) (a : Word) (v : Byte) : (s.busWrite a v).bootRom = s.bootRom :=
  (s.busWrite_keeps a v).2.2.2.2.2.1
@[simp] theorem State.busWrite_sink (s : State) (a : Word) (v : Byte) : (s.busWrite a v).sink = s.sink :=
  (s.busWrite_keeps a v).2.2.2.2.2.2

/-- A bus write commutes with a write of the registers. -/
theorem State.busWrite_withRegs (s : State) (r : Regs) (a : Word) (v : Byte) :
    { s with regs := r }.busWrite a v = { s.busWrite a v with regs := r } := by
  refine (s.busWrite_front r s.ime s.halted s.branchTaken s.fault a v).trans ?_
  simp

/-- A bus write leaves LY, the mode, the accumulator, the buffers and STAT[2:0]. -/
theorem State.busWrite_display (s : State) (a : Word) (v : Byte) :
    s.lcd.SameTiming (s.busWrite a v).lcd := by
  rcases s.busWrite_cases a v with h | h | h | ⟨k, -, h⟩ | h | h | h | h <;> rw [h]
  case inr.inr.inr.inr.inl =>
    unfold State.dmaCopy
    rw [dmaBytes_eq]
    exact ⟨rfl, rfl, rfl, rfl, rfl, rfl⟩
  case inr.inr.inr.inr.inr.inl => exact Display.writeReg_keeps _ _ _
  all_goals exact ⟨rfl, rfl, rfl, rfl, rfl, rfl⟩

/-- A bus write never changes what the controller hook counts, nor which controller answers. -/
theorem State.busWrite_ctrl (s : State) (a : Word) (v : Byte) :
    (s.busWrite a v).ctrl.ticks = s.ctrl.ticks ∧ (s.busWrite a v).ctrl.draws = s.ctrl.draws ∧
    (s.busWrite a v).ctrl.source = s.ctrl.source := by
  rcases s.busWrite_cases a v with h | h | h | ⟨k, -, h⟩ | h | h | h | h <;> rw [h]
  case inr.inr.inr.inr.inl =>
    unfold State.dmaCopy
    rw [dmaBytes_eq]
    exact ⟨rfl, rfl, rfl⟩
  all_goals exact ⟨rfl, rfl, rfl⟩

/-- A bus write reaches IE at 0xFFFF only, and IF at 0xFF0F only. -/
theorem State.busWrite_interrupts (s : State) (a : Word) (v : Byte) :
    (s.busWrite a v).ie = (if a = 0xFFFF then v else s.ie) ∧ (s.busWrite a v).ifr = (if a = 0xFF0F then v else s.ifr) := by
  have dma : ∀ n, (dmaBytes (pack v 0x00) n s).ie = s.ie ∧ (dmaBytes (pack v 0x00) n s).ifr = s.ifr := by
    intro n
    rw [dmaBytes_eq]
    exact ⟨rfl, rfl⟩
  have here : ∀ {r : Region}, regionOf a = r → (a = 0xFFFF → r = .intEnable) ∧ (a = 0xFF0F → r = .intFlag) := by
    rintro r rfl
    exact ⟨fun h => by rw [h]; rfl, fun h => by rw [h]; rfl⟩
  unfold State.busWrite
  split
  case h_1 h =>
    have : a = 0xFFFF := BitVec.eq_of_toNat_eq (regionOf_eq_iff.1 h)
    rw [this]
    exact ⟨rfl, rfl⟩
  case h_2 h =>
    have : a = 0xFF0F := BitVec.eq_of_toNat_eq (regionOf_eq_iff.1 h)
    rw [this]
    exact ⟨rfl, rfl⟩
  case h_3 h =>
    rw [if_neg (fun e => nomatch (here h).1 e), if_neg (fun e => nomatch (here h).2 e)]
    split
    · exact dma 160
    · exact ⟨rfl, rfl⟩
  case h_8 h =>
    rw [if_neg (fun e => nomatch (here h).1 e), if_neg (fun e => nomatch (here h).2 e)]
    split <;> exact ⟨rfl, rfl⟩
  all_goals
    rename_i h
    rw [if_neg (fun e => nomatch (here h).1 e), if_neg (fun e => nomatch (here h).2 e)]
    exact ⟨rfl, rfl⟩

/-- A bus write keeps MEM canonical. -/
theorem State.busWrite_wf {s : State} (hs : s.mem.wf = true) (a : Word) (v : Byte) : (s.busWrite a v).mem.wf = true := by
  rcases s.busWrite_cases a v with h | h | h | ⟨k, hk, h⟩ | h | h | h | h <;> rw [h]
  case inr.inr.inr.inl => exact Memory.wf_write v hs hk
  case inr.inr.inr.inr.inl => exact dmaBytes_wf _ (Nat.le_refl 160) hs
  all_goals exact hs

/-! ### Reading after writing -/

/-- The cell read for an address of plain storage, after a store to a cell. -/
theorem State.busRead_setCell_plain {s : State} (hs : s.mem.wf = true) {a : Word} {k : Nat} (h : plainCell a = some k)
    (j : Nat) (v : Byte) : (s.setCell j v).busRead a = if j = k then v else s.busRead a := by
  rw [State.busRead_plain h, State.busRead_plain h]
  exact Memory.wf_read_write hs j v k

/-- An address that is not plain storage reads as before in a state that differs in MEM only, with the same latch. -/
theorem State.busRead_withMem (s : State) {a : Word} (h : plainCell a = none) {m : Memory}
    (hl : m.read 0xFF50 = s.mem.read 0xFF50) : { s with mem := m }.busRead a = s.busRead a := by
  have latch : { s with mem := m }.bootDisabled = s.bootDisabled := by
    unfold State.bootDisabled
    exact congrArg (· != 0x00) hl
  unfold plainCell at h
  unfold State.busRead
  generalize regionOf a = r at h
  cases r
  case bootWindow => simp only [latch]
  all_goals first
    | rfl
    | simp only [reduceCtorEq] at h

/-- The bytes of the OAM copy (R90): each is what the bus gave before the copy, for every source page; no other cell
changes. -/
theorem dmaBytes_read {s : State} (hs : s.mem.wf = true) (v : Byte) {n : Nat} (hn : n ≤ 160) (k : Nat) :
    (dmaBytes (pack v 0x00) n s).mem.read k =
      if 0xFE00 ≤ k ∧ k < 0xFE00 + n then s.busRead (pack v 0x00 + BitVec.ofNat 16 (k - 0xFE00)) else s.mem.read k := by
  induction n generalizing k with
  | zero => rw [if_neg (by omega)]; rfl
  | succ n ih =>
    have ih := ih (by omega)
    show ((dmaBytes (pack v 0x00) n s).mem.write (0xFE00 + n) _).read k = _
    rw [Memory.wf_read_write (dmaBytes_wf _ (by omega) hs)]
    by_cases hk : 0xFE00 + n = k
    · subst hk
      rw [if_pos rfl, if_pos (by omega), Nat.add_sub_cancel_left]
      have an : (pack v 0x00 + BitVec.ofNat 16 n).toNat = v.toNat * 256 + n := by
        rw [BitVec.toNat_add, pack_toNat, BitVec.toNat_ofNat]
        have := v.isLt
        simp
        omega
      generalize pack v 0x00 + BitVec.ofNat 16 n = a at an
      cases hc : plainCell a with
      | some j =>
        rw [State.busRead_plain hc, State.busRead_plain hc, ih]
        refine if_neg fun hj => ?_
        rcases plainCell_cases hc with ⟨e, -⟩ | ⟨e, he⟩
        · omega
        · have := regionOf_eq_iff.1 he
          simp only [Region.Holds] at this
          omega
      | none =>
        rw [dmaBytes_eq]
        exact State.busRead_withMem s hc (by rw [ih, if_neg (by omega)])
    · have same : (0xFE00 ≤ k ∧ k < 0xFE00 + (n + 1)) ↔ (0xFE00 ≤ k ∧ k < 0xFE00 + n) := by omega
      rw [if_neg hk, ih]
      simp only [same]

theorem Display.readReg_ite {c : Prop} [Decidable c] {d e e' : Display} {b : Word} (h : c → e.readReg b = d.readReg b)
    (h' : e'.readReg b = d.readReg b) : (if c then e else e').readReg b = d.readReg b := by
  split
  · next hc => exact h hc
  · exact h'

/-- A store to a display register other than DMA reaches no other address. -/
theorem Display.readReg_writeReg_other (d : Display) {a b : Word} (v : Byte) (h : b ≠ a) :
    (d.writeReg a v).readReg b = d.readReg b := by
  unfold Display.writeReg
  repeat refine Display.readReg_ite (fun hc => by subst hc; unfold Display.readReg; simp only [h, if_false]) ?_
  rfl

/-- A flat cartridge stays what it was, and any other cartridge stays one. -/
def Cartridge.Evolves (c c' : Cartridge) : Prop :=
  (∀ image, c = .flat image → c' = .flat image) ∧ ∀ h, c = .external h → ∃ h', c' = .external h'

theorem Cartridge.Evolves.refl (c : Cartridge) : c.Evolves c := ⟨fun _ h => h, fun h e => ⟨h, e⟩⟩

theorem Cartridge.Evolves.trans {c c' c'' : Cartridge} (h : c.Evolves c') (h' : c'.Evolves c'') : c.Evolves c'' :=
  ⟨fun i e => h'.1 i (h.1 i e), fun _ e => let ⟨x, hx⟩ := h.2 _ e; h'.2 x hx⟩

theorem Cartridge.writeByte_evolves (c : Cartridge) (a : Word) (v : Byte) : c.Evolves (c.writeByte a v) := by
  cases c with
  | flat image => exact Cartridge.Evolves.refl _
  | external h => exact ⟨fun _ e => Cartridge.noConfusion e, fun _ _ => ⟨_, rfl⟩⟩

theorem State.busWrite_cart (s : State) (a : Word) (v : Byte) : s.cart.Evolves (s.busWrite a v).cart := by
  rcases s.busWrite_cases a v with h | h | h | ⟨k, -, h⟩ | h | h | h | h <;> rw [h]
  case inr.inr.inr.inr.inl =>
    unfold State.dmaCopy
    rw [dmaBytes_eq]
    exact Cartridge.Evolves.refl _
  case inr.inr.inr.inr.inr.inr.inr => exact Cartridge.writeByte_evolves _ _ _
  all_goals exact Cartridge.Evolves.refl _

end Sys2Proof.Machine
end

