-- ==== Sys2Proof/Laws/Decode.lean ====
section
/-! SUPPORT. Decoding by the length of the opcode (30_encoding.md R110). -/

namespace Sys2Proof

theorem decodeBytes_cons (b0 : Byte) (rest : List Byte) :
    decodeBytes (b0 :: rest) =
      if rest.length + 1 < lengthOf b0 then .error (.truncated b0)
      else .ok (decode b0 (rest.getD 0 0) (rest.getD 1 0), rest.drop (lengthOf b0 - 1)) := rfl

theorem decodeBytes_one {b0 : Byte} (rest : List Byte) (h : lengthOf b0 = 1) :
    decodeBytes (b0 :: rest) = .ok (decode b0 (rest.getD 0 0) (rest.getD 1 0), rest) := by
  rw [decodeBytes_cons, h, if_neg (by omega)]
  rfl

theorem decodeBytes_two {b0 : Byte} (b1 : Byte) (rest : List Byte) (h : lengthOf b0 = 2) :
    decodeBytes (b0 :: b1 :: rest) = .ok (decode b0 b1 (rest.getD 0 0), rest) := by
  rw [decodeBytes_cons, h, if_neg (by rw [List.length_cons]; omega)]
  rfl

theorem decodeBytes_three {b0 : Byte} (b1 b2 : Byte) (rest : List Byte) (h : lengthOf b0 = 3) :
    decodeBytes (b0 :: b1 :: b2 :: rest) = .ok (decode b0 b1 b2, rest) := by
  rw [decodeBytes_cons, h, if_neg (by rw [List.length_cons, List.length_cons]; omega)]
  rfl

/-- The bytes of an operand word, put together again. -/
theorem pack_bytes (v : Word) : Machine.pack (v.extractLsb' 8 8) (v.extractLsb' 0 8) = v := Machine.pack_hi_lo v

end Sys2Proof
end

