-- ==== Sys2Proof/Laws/Effect.lean ====
section
/-! SUPPORT. Everything an instruction can do, said once: `Effect i s t` has one rule per shape of instruction, and
`exec_effect` says that `exec` answers the state of one of them. A claim about all instructions is a case split over
these rules, not over the constructors of `Instr`. -/

namespace Sys2Proof.Machine

/-- The eight ALU operations on A (41_alu8.md R183 to R190). -/
def aluToA : AluOp → Byte → State → State
  | .add => addToA
  | .adc => adcToA
  | .sub => subToA
  | .sbc => sbcToA
  | .and => andToA
  | .xor => xorToA
  | .or => orToA
  | .cp => cpToA

/-- The eight rotates and shifts (43_rotate_bit.md R230 to R237). -/
def rotateOperand : RotOp → Operand8 → State → State
  | .rlc => rlcOperand
  | .rrc => rrcOperand
  | .rl => rlOperand
  | .rr => rrOperand
  | .sla => slaOperand
  | .sra => sraOperand
  | .swap => swapOperand
  | .srl => srlOperand

/-- The eleven illegal slots (45_system.md R280). -/
def illegalInstrs : List (Instr × Byte) :=
  [(.illegal_D3, 0xD3), (.illegal_DB, 0xDB), (.illegal_DD, 0xDD), (.illegal_E3, 0xE3), (.illegal_E4, 0xE4),
    (.illegal_EB, 0xEB), (.illegal_EC, 0xEC), (.illegal_ED, 0xED), (.illegal_F4, 0xF4), (.illegal_FC, 0xFC),
    (.illegal_FD, 0xFD)]

/-- What each shape of instruction makes of a state. -/
inductive Effect : Instr → State → State → Prop
  | ldRegReg (dst src : Reg8) (s : State) : Effect (Instr.ldRegReg dst src) s (ldRegReg dst src s)
  | ldRegImm (dst : Reg8) (v : Byte) (s : State) : Effect (Instr.ldRegImm dst v) s (ldRegImm dst v s)
  | ldRegAtHL (dst : Reg8) (s : State) : Effect (Instr.ldRegAtHL dst) s (ldRegAtHL dst s)
  | ldAtHLReg (src : Reg8) (s : State) : Effect (Instr.ldAtHLReg src) s (ldAtHLReg src s)
  | ldAtHLImm (v : Byte) (s : State) : Effect (.ld_atHL_d8 v) s (ldAtHLImm v s)
  | ldAAtBC (s : State) : Effect .ld_A_atBC s (ldAAtAddr (s.reg16 .bc) s)
  | ldAAtDE (s : State) : Effect .ld_A_atDE s (ldAAtAddr (s.reg16 .de) s)
  | ldAAtA16 (a : Word) (s : State) : Effect (.ld_A_atA16 a) s (ldAAtAddr a s)
  | ldhAAtA8 (n : Byte) (s : State) : Effect (.ldh_A_atA8 n) s (ldAAtAddr (highPage n) s)
  | ldAAtC (s : State) : Effect .ld_A_atC s (ldAAtAddr (highPage s.regs.c) s)
  | ldAtBCA (s : State) : Effect .ld_atBC_A s (ldAtAddrA (s.reg16 .bc) s)
  | ldAtDEA (s : State) : Effect .ld_atDE_A s (ldAtAddrA (s.reg16 .de) s)
  | ldAtA16A (a : Word) (s : State) : Effect (.ld_atA16_A a) s (ldAtAddrA a s)
  | ldhAtA8A (n : Byte) (s : State) : Effect (.ldh_atA8_A n) s (ldAtAddrA (highPage n) s)
  | ldAtCA (s : State) : Effect .ld_atC_A s (ldAtAddrA (highPage s.regs.c) s)
  | ldAtHLIncA (s : State) : Effect .ld_atHLinc_A s (ldAtHLStepA 1 s)
  | ldAtHLDecA (s : State) : Effect .ld_atHLdec_A s (ldAtHLStepA (-1) s)
  | ldAAtHLInc (s : State) : Effect .ld_A_atHLinc s (ldAAtHLStep 1 s)
  | ldAAtHLDec (s : State) : Effect .ld_A_atHLdec s (ldAAtHLStep (-1) s)
  | ldPairImm (p : Pair) (v : Word) (s : State) : Effect (Instr.ldPairImm p v) s (ldPairImm p v s)
  | ldHLSpE8 (b : Byte) (s : State) : Effect (.ld_HL_SPe8 b) s (ldHLSpE8 b s)
  | ldSpHL (s : State) : Effect .ld_SP_HL s (ldSpHL s)
  | ldAtAddrSp (a : Word) (s : State) : Effect (.ld_atA16_SP a) s (ldAtAddrSp a s)
  | pushPair (p : StackPair) (s : State) : Effect (Instr.push p) s (pushPair p s)
  | popPair (p : StackPair) (s : State) : Effect (Instr.pop p) s (popPair p s)
  | alu (op : AluOp) (o : Operand8) (s : State) : Effect (Instr.alu op o) s (aluToA op (s.readOperand o) s)
  | aluImm (op : AluOp) (v : Byte) (s : State) : Effect (Instr.aluImm op v) s (aluToA op v s)
  | incOperand (o : Operand8) (s : State) : Effect (Instr.inc8 o) s (incOperand o s)
  | decOperand (o : Operand8) (s : State) : Effect (Instr.dec8 o) s (decOperand o s)
  | daaA (s : State) : Effect .daa s (daaA s)
  | cplA (s : State) : Effect .cpl s (cplA s)
  | scfC (s : State) : Effect .scf s (scfC s)
  | ccfC (s : State) : Effect .ccf s (ccfC s)
  | addHL (p : Pair) (s : State) : Effect (Instr.addHL p) s (addHL p s)
  | incPair (p : Pair) (s : State) : Effect (Instr.incPair p) s (incPair p s)
  | decPair (p : Pair) (s : State) : Effect (Instr.decPair p) s (decPair p s)
  | addSp (b : Byte) (s : State) : Effect (.add_SP_e8 b) s (addSp b s)
  | rlcA (s : State) : Effect .rlca s (rlcA s)
  | rrcA (s : State) : Effect .rrca s (rrcA s)
  | rlA (s : State) : Effect .rla s (rlA s)
  | rrA (s : State) : Effect .rra s (rrA s)
  | rotate (op : RotOp) (o : Operand8) (s : State) : Effect (Instr.rotate op o) s (rotateOperand op o s)
  | bitOperand (b : Field3) (o : Operand8) (s : State) : Effect (Instr.bitTest b o) s (bitOperand b o s)
  | resOperand (b : Field3) (o : Operand8) (s : State) : Effect (Instr.bitReset b o) s (resOperand b o s)
  | setOperand (b : Field3) (o : Operand8) (s : State) : Effect (Instr.bitSet b o) s (setOperand b o s)
  | jump (a : Word) (s : State) : Effect (.jp_a16 a) s (jump a s)
  | jumpHL (s : State) : Effect .jp_HL s (jump (s.reg16 .hl) s)
  | jumpIf (cc : Cond) (a : Word) (s : State) : Effect (Instr.jpIf cc a) s (jumpIf cc a s)
  | jumpRelative (b : Byte) (s : State) : Effect (.jr_e8 b) s (jumpRelative b s)
  | jumpRelativeIf (cc : Cond) (b : Byte) (s : State) : Effect (Instr.jrIf cc b) s (jumpRelativeIf cc b s)
  | call (a : Word) (s : State) : Effect (.call_a16 a) s (call a s)
  | callIf (cc : Cond) (a : Word) (s : State) : Effect (Instr.callIf cc a) s (callIf cc a s)
  | ret (s : State) : Effect .ret s (ret s)
  | retIf (cc : Cond) (s : State) : Effect (Instr.retIf cc) s (retIf cc s)
  | reti (s : State) : Effect .reti s (reti s)
  | restart (y : Field3) (s : State) : Effect (Instr.rst y) s (restart y s)
  | nopStep (s : State) : Effect .nop s (nopStep s)
  | halt (s : State) : Effect .halt s (haltStep s)
  | stop (b : Byte) (s : State) : Effect (.stop b) s (haltStep s)
  | disableInterrupts (s : State) : Effect .di s (disableInterrupts s)
  | enableInterrupts (s : State) : Effect .ei s (enableInterrupts s)
  | illegal {i : Instr} {op : Byte} (h : (i, op) ∈ illegalInstrs) (s : State) : Effect i s (illegal op s)

/-- Every instruction answers a next state, and it is the one its shape gives. -/
theorem exec_effect (i : Instr) (s : State) : ∃ t, exec i s = .next t ∧ Effect i s t :=
  match i with
  | .nop => ⟨_, rfl, .nopStep s⟩
  | .ld_BC_d16 d16 => ⟨_, rfl, .ldPairImm .bc d16 s⟩
  | .ld_atBC_A => ⟨_, rfl, .ldAtBCA s⟩
  | .inc_BC => ⟨_, rfl, .incPair .bc s⟩
  | .inc_B => ⟨_, rfl, .incOperand (.reg .b) s⟩
  | .dec_B => ⟨_, rfl, .decOperand (.reg .b) s⟩
  | .ld_B_d8 d8 => ⟨_, rfl, .ldRegImm .b d8 s⟩
  | .rlca => ⟨_, rfl, .rlcA s⟩
  | .ld_atA16_SP a16 => ⟨_, rfl, .ldAtAddrSp a16 s⟩
  | .add_HL_BC => ⟨_, rfl, .addHL .bc s⟩
  | .ld_A_atBC => ⟨_, rfl, .ldAAtBC s⟩
  | .dec_BC => ⟨_, rfl, .decPair .bc s⟩
  | .inc_C => ⟨_, rfl, .incOperand (.reg .c) s⟩
  | .dec_C => ⟨_, rfl, .decOperand (.reg .c) s⟩
  | .ld_C_d8 d8 => ⟨_, rfl, .ldRegImm .c d8 s⟩
  | .rrca => ⟨_, rfl, .rrcA s⟩
  | .stop ignored => ⟨_, rfl, .stop ignored s⟩
  | .ld_DE_d16 d16 => ⟨_, rfl, .ldPairImm .de d16 s⟩
  | .ld_atDE_A => ⟨_, rfl, .ldAtDEA s⟩
  | .inc_DE => ⟨_, rfl, .incPair .de s⟩
  | .inc_D => ⟨_, rfl, .incOperand (.reg .d) s⟩
  | .dec_D => ⟨_, rfl, .decOperand (.reg .d) s⟩
  | .ld_D_d8 d8 => ⟨_, rfl, .ldRegImm .d d8 s⟩
  | .rla => ⟨_, rfl, .rlA s⟩
  | .jr_e8 e8 => ⟨_, rfl, .jumpRelative e8 s⟩
  | .add_HL_DE => ⟨_, rfl, .addHL .de s⟩
  | .ld_A_atDE => ⟨_, rfl, .ldAAtDE s⟩
  | .dec_DE => ⟨_, rfl, .decPair .de s⟩
  | .inc_E => ⟨_, rfl, .incOperand (.reg .e) s⟩
  | .dec_E => ⟨_, rfl, .decOperand (.reg .e) s⟩
  | .ld_E_d8 d8 => ⟨_, rfl, .ldRegImm .e d8 s⟩
  | .rra => ⟨_, rfl, .rrA s⟩
  | .jr_NZ_e8 e8 => ⟨_, rfl, .jumpRelativeIf .nz e8 s⟩
  | .ld_HL_d16 d16 => ⟨_, rfl, .ldPairImm .hl d16 s⟩
  | .ld_atHLinc_A => ⟨_, rfl, .ldAtHLIncA s⟩
  | .inc_HL => ⟨_, rfl, .incPair .hl s⟩
  | .inc_H => ⟨_, rfl, .incOperand (.reg .h) s⟩
  | .dec_H => ⟨_, rfl, .decOperand (.reg .h) s⟩
  | .ld_H_d8 d8 => ⟨_, rfl, .ldRegImm .h d8 s⟩
  | .daa => ⟨_, rfl, .daaA s⟩
  | .jr_Z_e8 e8 => ⟨_, rfl, .jumpRelativeIf .z e8 s⟩
  | .add_HL_HL => ⟨_, rfl, .addHL .hl s⟩
  | .ld_A_atHLinc => ⟨_, rfl, .ldAAtHLInc s⟩
  | .dec_HL => ⟨_, rfl, .decPair .hl s⟩
  | .inc_L => ⟨_, rfl, .incOperand (.reg .l) s⟩
  | .dec_L => ⟨_, rfl, .decOperand (.reg .l) s⟩
  | .ld_L_d8 d8 => ⟨_, rfl, .ldRegImm .l d8 s⟩
  | .cpl => ⟨_, rfl, .cplA s⟩
  | .jr_NC_e8 e8 => ⟨_, rfl, .jumpRelativeIf .nc e8 s⟩
  | .ld_SP_d16 d16 => ⟨_, rfl, .ldPairImm .sp d16 s⟩
  | .ld_atHLdec_A => ⟨_, rfl, .ldAtHLDecA s⟩
  | .inc_SP => ⟨_, rfl, .incPair .sp s⟩
  | .inc_atHL => ⟨_, rfl, .incOperand .atHL s⟩
  | .dec_atHL => ⟨_, rfl, .decOperand .atHL s⟩
  | .ld_atHL_d8 d8 => ⟨_, rfl, .ldAtHLImm d8 s⟩
  | .scf => ⟨_, rfl, .scfC s⟩
  | .jr_C_e8 e8 => ⟨_, rfl, .jumpRelativeIf .c e8 s⟩
  | .add_HL_SP => ⟨_, rfl, .addHL .sp s⟩
  | .ld_A_atHLdec => ⟨_, rfl, .ldAAtHLDec s⟩
  | .dec_SP => ⟨_, rfl, .decPair .sp s⟩
  | .inc_A => ⟨_, rfl, .incOperand (.reg .a) s⟩
  | .dec_A => ⟨_, rfl, .decOperand (.reg .a) s⟩
  | .ld_A_d8 d8 => ⟨_, rfl, .ldRegImm .a d8 s⟩
  | .ccf => ⟨_, rfl, .ccfC s⟩
  | .ld_B_B => ⟨_, rfl, .ldRegReg .b .b s⟩
  | .ld_B_C => ⟨_, rfl, .ldRegReg .b .c s⟩
  | .ld_B_D => ⟨_, rfl, .ldRegReg .b .d s⟩
  | .ld_B_E => ⟨_, rfl, .ldRegReg .b .e s⟩
  | .ld_B_H => ⟨_, rfl, .ldRegReg .b .h s⟩
  | .ld_B_L => ⟨_, rfl, .ldRegReg .b .l s⟩
  | .ld_B_atHL => ⟨_, rfl, .ldRegAtHL .b s⟩
  | .ld_B_A => ⟨_, rfl, .ldRegReg .b .a s⟩
  | .ld_C_B => ⟨_, rfl, .ldRegReg .c .b s⟩
  | .ld_C_C => ⟨_, rfl, .ldRegReg .c .c s⟩
  | .ld_C_D => ⟨_, rfl, .ldRegReg .c .d s⟩
  | .ld_C_E => ⟨_, rfl, .ldRegReg .c .e s⟩
  | .ld_C_H => ⟨_, rfl, .ldRegReg .c .h s⟩
  | .ld_C_L => ⟨_, rfl, .ldRegReg .c .l s⟩
  | .ld_C_atHL => ⟨_, rfl, .ldRegAtHL .c s⟩
  | .ld_C_A => ⟨_, rfl, .ldRegReg .c .a s⟩
  | .ld_D_B => ⟨_, rfl, .ldRegReg .d .b s⟩
  | .ld_D_C => ⟨_, rfl, .ldRegReg .d .c s⟩
  | .ld_D_D => ⟨_, rfl, .ldRegReg .d .d s⟩
  | .ld_D_E => ⟨_, rfl, .ldRegReg .d .e s⟩
  | .ld_D_H => ⟨_, rfl, .ldRegReg .d .h s⟩
  | .ld_D_L => ⟨_, rfl, .ldRegReg .d .l s⟩
  | .ld_D_atHL => ⟨_, rfl, .ldRegAtHL .d s⟩
  | .ld_D_A => ⟨_, rfl, .ldRegReg .d .a s⟩
  | .ld_E_B => ⟨_, rfl, .ldRegReg .e .b s⟩
  | .ld_E_C => ⟨_, rfl, .ldRegReg .e .c s⟩
  | .ld_E_D => ⟨_, rfl, .ldRegReg .e .d s⟩
  | .ld_E_E => ⟨_, rfl, .ldRegReg .e .e s⟩
  | .ld_E_H => ⟨_, rfl, .ldRegReg .e .h s⟩
  | .ld_E_L => ⟨_, rfl, .ldRegReg .e .l s⟩
  | .ld_E_atHL => ⟨_, rfl, .ldRegAtHL .e s⟩
  | .ld_E_A => ⟨_, rfl, .ldRegReg .e .a s⟩
  | .ld_H_B => ⟨_, rfl, .ldRegReg .h .b s⟩
  | .ld_H_C => ⟨_, rfl, .ldRegReg .h .c s⟩
  | .ld_H_D => ⟨_, rfl, .ldRegReg .h .d s⟩
  | .ld_H_E => ⟨_, rfl, .ldRegReg .h .e s⟩
  | .ld_H_H => ⟨_, rfl, .ldRegReg .h .h s⟩
  | .ld_H_L => ⟨_, rfl, .ldRegReg .h .l s⟩
  | .ld_H_atHL => ⟨_, rfl, .ldRegAtHL .h s⟩
  | .ld_H_A => ⟨_, rfl, .ldRegReg .h .a s⟩
  | .ld_L_B => ⟨_, rfl, .ldRegReg .l .b s⟩
  | .ld_L_C => ⟨_, rfl, .ldRegReg .l .c s⟩
  | .ld_L_D => ⟨_, rfl, .ldRegReg .l .d s⟩
  | .ld_L_E => ⟨_, rfl, .ldRegReg .l .e s⟩
  | .ld_L_H => ⟨_, rfl, .ldRegReg .l .h s⟩
  | .ld_L_L => ⟨_, rfl, .ldRegReg .l .l s⟩
  | .ld_L_atHL => ⟨_, rfl, .ldRegAtHL .l s⟩
  | .ld_L_A => ⟨_, rfl, .ldRegReg .l .a s⟩
  | .ld_atHL_B => ⟨_, rfl, .ldAtHLReg .b s⟩
  | .ld_atHL_C => ⟨_, rfl, .ldAtHLReg .c s⟩
  | .ld_atHL_D => ⟨_, rfl, .ldAtHLReg .d s⟩
  | .ld_atHL_E => ⟨_, rfl, .ldAtHLReg .e s⟩
  | .ld_atHL_H => ⟨_, rfl, .ldAtHLReg .h s⟩
  | .ld_atHL_L => ⟨_, rfl, .ldAtHLReg .l s⟩
  | .halt => ⟨_, rfl, .halt s⟩
  | .ld_atHL_A => ⟨_, rfl, .ldAtHLReg .a s⟩
  | .ld_A_B => ⟨_, rfl, .ldRegReg .a .b s⟩
  | .ld_A_C => ⟨_, rfl, .ldRegReg .a .c s⟩
  | .ld_A_D => ⟨_, rfl, .ldRegReg .a .d s⟩
  | .ld_A_E => ⟨_, rfl, .ldRegReg .a .e s⟩
  | .ld_A_H => ⟨_, rfl, .ldRegReg .a .h s⟩
  | .ld_A_L => ⟨_, rfl, .ldRegReg .a .l s⟩
  | .ld_A_atHL => ⟨_, rfl, .ldRegAtHL .a s⟩
  | .ld_A_A => ⟨_, rfl, .ldRegReg .a .a s⟩
  | .add_A_B => ⟨_, rfl, .alu .add (.reg .b) s⟩
  | .add_A_C => ⟨_, rfl, .alu .add (.reg .c) s⟩
  | .add_A_D => ⟨_, rfl, .alu .add (.reg .d) s⟩
  | .add_A_E => ⟨_, rfl, .alu .add (.reg .e) s⟩
  | .add_A_H => ⟨_, rfl, .alu .add (.reg .h) s⟩
  | .add_A_L => ⟨_, rfl, .alu .add (.reg .l) s⟩
  | .add_A_atHL => ⟨_, rfl, .alu .add .atHL s⟩
  | .add_A_A => ⟨_, rfl, .alu .add (.reg .a) s⟩
  | .adc_A_B => ⟨_, rfl, .alu .adc (.reg .b) s⟩
  | .adc_A_C => ⟨_, rfl, .alu .adc (.reg .c) s⟩
  | .adc_A_D => ⟨_, rfl, .alu .adc (.reg .d) s⟩
  | .adc_A_E => ⟨_, rfl, .alu .adc (.reg .e) s⟩
  | .adc_A_H => ⟨_, rfl, .alu .adc (.reg .h) s⟩
  | .adc_A_L => ⟨_, rfl, .alu .adc (.reg .l) s⟩
  | .adc_A_atHL => ⟨_, rfl, .alu .adc .atHL s⟩
  | .adc_A_A => ⟨_, rfl, .alu .adc (.reg .a) s⟩
  | .sub_B => ⟨_, rfl, .alu .sub (.reg .b) s⟩
  | .sub_C => ⟨_, rfl, .alu .sub (.reg .c) s⟩
  | .sub_D => ⟨_, rfl, .alu .sub (.reg .d) s⟩
  | .sub_E => ⟨_, rfl, .alu .sub (.reg .e) s⟩
  | .sub_H => ⟨_, rfl, .alu .sub (.reg .h) s⟩
  | .sub_L => ⟨_, rfl, .alu .sub (.reg .l) s⟩
  | .sub_atHL => ⟨_, rfl, .alu .sub .atHL s⟩
  | .sub_A => ⟨_, rfl, .alu .sub (.reg .a) s⟩
  | .sbc_A_B => ⟨_, rfl, .alu .sbc (.reg .b) s⟩
  | .sbc_A_C => ⟨_, rfl, .alu .sbc (.reg .c) s⟩
  | .sbc_A_D => ⟨_, rfl, .alu .sbc (.reg .d) s⟩
  | .sbc_A_E => ⟨_, rfl, .alu .sbc (.reg .e) s⟩
  | .sbc_A_H => ⟨_, rfl, .alu .sbc (.reg .h) s⟩
  | .sbc_A_L => ⟨_, rfl, .alu .sbc (.reg .l) s⟩
  | .sbc_A_atHL => ⟨_, rfl, .alu .sbc .atHL s⟩
  | .sbc_A_A => ⟨_, rfl, .alu .sbc (.reg .a) s⟩
  | .and_B => ⟨_, rfl, .alu .and (.reg .b) s⟩
  | .and_C => ⟨_, rfl, .alu .and (.reg .c) s⟩
  | .and_D => ⟨_, rfl, .alu .and (.reg .d) s⟩
  | .and_E => ⟨_, rfl, .alu .and (.reg .e) s⟩
  | .and_H => ⟨_, rfl, .alu .and (.reg .h) s⟩
  | .and_L => ⟨_, rfl, .alu .and (.reg .l) s⟩
  | .and_atHL => ⟨_, rfl, .alu .and .atHL s⟩
  | .and_A => ⟨_, rfl, .alu .and (.reg .a) s⟩
  | .xor_B => ⟨_, rfl, .alu .xor (.reg .b) s⟩
  | .xor_C => ⟨_, rfl, .alu .xor (.reg .c) s⟩
  | .xor_D => ⟨_, rfl, .alu .xor (.reg .d) s⟩
  | .xor_E => ⟨_, rfl, .alu .xor (.reg .e) s⟩
  | .xor_H => ⟨_, rfl, .alu .xor (.reg .h) s⟩
  | .xor_L => ⟨_, rfl, .alu .xor (.reg .l) s⟩
  | .xor_atHL => ⟨_, rfl, .alu .xor .atHL s⟩
  | .xor_A => ⟨_, rfl, .alu .xor (.reg .a) s⟩
  | .or_B => ⟨_, rfl, .alu .or (.reg .b) s⟩
  | .or_C => ⟨_, rfl, .alu .or (.reg .c) s⟩
  | .or_D => ⟨_, rfl, .alu .or (.reg .d) s⟩
  | .or_E => ⟨_, rfl, .alu .or (.reg .e) s⟩
  | .or_H => ⟨_, rfl, .alu .or (.reg .h) s⟩
  | .or_L => ⟨_, rfl, .alu .or (.reg .l) s⟩
  | .or_atHL => ⟨_, rfl, .alu .or .atHL s⟩
  | .or_A => ⟨_, rfl, .alu .or (.reg .a) s⟩
  | .cp_B => ⟨_, rfl, .alu .cp (.reg .b) s⟩
  | .cp_C => ⟨_, rfl, .alu .cp (.reg .c) s⟩
  | .cp_D => ⟨_, rfl, .alu .cp (.reg .d) s⟩
  | .cp_E => ⟨_, rfl, .alu .cp (.reg .e) s⟩
  | .cp_H => ⟨_, rfl, .alu .cp (.reg .h) s⟩
  | .cp_L => ⟨_, rfl, .alu .cp (.reg .l) s⟩
  | .cp_atHL => ⟨_, rfl, .alu .cp .atHL s⟩
  | .cp_A => ⟨_, rfl, .alu .cp (.reg .a) s⟩
  | .ret_NZ => ⟨_, rfl, .retIf .nz s⟩
  | .pop_BC => ⟨_, rfl, .popPair .bc s⟩
  | .jp_NZ_a16 a16 => ⟨_, rfl, .jumpIf .nz a16 s⟩
  | .jp_a16 a16 => ⟨_, rfl, .jump a16 s⟩
  | .call_NZ_a16 a16 => ⟨_, rfl, .callIf .nz a16 s⟩
  | .push_BC => ⟨_, rfl, .pushPair .bc s⟩
  | .add_A_d8 d8 => ⟨_, rfl, .aluImm .add d8 s⟩
  | .rst_00H => ⟨_, rfl, .restart .n0 s⟩
  | .ret_Z => ⟨_, rfl, .retIf .z s⟩
  | .ret => ⟨_, rfl, .ret s⟩
  | .jp_Z_a16 a16 => ⟨_, rfl, .jumpIf .z a16 s⟩
  | .call_Z_a16 a16 => ⟨_, rfl, .callIf .z a16 s⟩
  | .call_a16 a16 => ⟨_, rfl, .call a16 s⟩
  | .adc_A_d8 d8 => ⟨_, rfl, .aluImm .adc d8 s⟩
  | .rst_08H => ⟨_, rfl, .restart .n1 s⟩
  | .ret_NC => ⟨_, rfl, .retIf .nc s⟩
  | .pop_DE => ⟨_, rfl, .popPair .de s⟩
  | .jp_NC_a16 a16 => ⟨_, rfl, .jumpIf .nc a16 s⟩
  | .illegal_D3 => ⟨_, rfl, .illegal (by decide) s⟩
  | .call_NC_a16 a16 => ⟨_, rfl, .callIf .nc a16 s⟩
  | .push_DE => ⟨_, rfl, .pushPair .de s⟩
  | .sub_d8 d8 => ⟨_, rfl, .aluImm .sub d8 s⟩
  | .rst_10H => ⟨_, rfl, .restart .n2 s⟩
  | .ret_C => ⟨_, rfl, .retIf .c s⟩
  | .reti => ⟨_, rfl, .reti s⟩
  | .jp_C_a16 a16 => ⟨_, rfl, .jumpIf .c a16 s⟩
  | .illegal_DB => ⟨_, rfl, .illegal (by decide) s⟩
  | .call_C_a16 a16 => ⟨_, rfl, .callIf .c a16 s⟩
  | .illegal_DD => ⟨_, rfl, .illegal (by decide) s⟩
  | .sbc_A_d8 d8 => ⟨_, rfl, .aluImm .sbc d8 s⟩
  | .rst_18H => ⟨_, rfl, .restart .n3 s⟩
  | .ldh_atA8_A a8 => ⟨_, rfl, .ldhAtA8A a8 s⟩
  | .pop_HL => ⟨_, rfl, .popPair .hl s⟩
  | .ld_atC_A => ⟨_, rfl, .ldAtCA s⟩
  | .illegal_E3 => ⟨_, rfl, .illegal (by decide) s⟩
  | .illegal_E4 => ⟨_, rfl, .illegal (by decide) s⟩
  | .push_HL => ⟨_, rfl, .pushPair .hl s⟩
  | .and_d8 d8 => ⟨_, rfl, .aluImm .and d8 s⟩
  | .rst_20H => ⟨_, rfl, .restart .n4 s⟩
  | .add_SP_e8 e8 => ⟨_, rfl, .addSp e8 s⟩
  | .jp_HL => ⟨_, rfl, .jumpHL s⟩
  | .ld_atA16_A a16 => ⟨_, rfl, .ldAtA16A a16 s⟩
  | .illegal_EB => ⟨_, rfl, .illegal (by decide) s⟩
  | .illegal_EC => ⟨_, rfl, .illegal (by decide) s⟩
  | .illegal_ED => ⟨_, rfl, .illegal (by decide) s⟩
  | .xor_d8 d8 => ⟨_, rfl, .aluImm .xor d8 s⟩
  | .rst_28H => ⟨_, rfl, .restart .n5 s⟩
  | .ldh_A_atA8 a8 => ⟨_, rfl, .ldhAAtA8 a8 s⟩
  | .pop_AF => ⟨_, rfl, .popPair .af s⟩
  | .ld_A_atC => ⟨_, rfl, .ldAAtC s⟩
  | .di => ⟨_, rfl, .disableInterrupts s⟩
  | .illegal_F4 => ⟨_, rfl, .illegal (by decide) s⟩
  | .push_AF => ⟨_, rfl, .pushPair .af s⟩
  | .or_d8 d8 => ⟨_, rfl, .aluImm .or d8 s⟩
  | .rst_30H => ⟨_, rfl, .restart .n6 s⟩
  | .ld_HL_SPe8 e8 => ⟨_, rfl, .ldHLSpE8 e8 s⟩
  | .ld_SP_HL => ⟨_, rfl, .ldSpHL s⟩
  | .ld_A_atA16 a16 => ⟨_, rfl, .ldAAtA16 a16 s⟩
  | .ei => ⟨_, rfl, .enableInterrupts s⟩
  | .illegal_FC => ⟨_, rfl, .illegal (by decide) s⟩
  | .illegal_FD => ⟨_, rfl, .illegal (by decide) s⟩
  | .cp_d8 d8 => ⟨_, rfl, .aluImm .cp d8 s⟩
  | .rst_38H => ⟨_, rfl, .restart .n7 s⟩
  | .rlc_B => ⟨_, rfl, .rotate .rlc (.reg .b) s⟩
  | .rlc_C => ⟨_, rfl, .rotate .rlc (.reg .c) s⟩
  | .rlc_D => ⟨_, rfl, .rotate .rlc (.reg .d) s⟩
  | .rlc_E => ⟨_, rfl, .rotate .rlc (.reg .e) s⟩
  | .rlc_H => ⟨_, rfl, .rotate .rlc (.reg .h) s⟩
  | .rlc_L => ⟨_, rfl, .rotate .rlc (.reg .l) s⟩
  | .rlc_atHL => ⟨_, rfl, .rotate .rlc .atHL s⟩
  | .rlc_A => ⟨_, rfl, .rotate .rlc (.reg .a) s⟩
  | .rrc_B => ⟨_, rfl, .rotate .rrc (.reg .b) s⟩
  | .rrc_C => ⟨_, rfl, .rotate .rrc (.reg .c) s⟩
  | .rrc_D => ⟨_, rfl, .rotate .rrc (.reg .d) s⟩
  | .rrc_E => ⟨_, rfl, .rotate .rrc (.reg .e) s⟩
  | .rrc_H => ⟨_, rfl, .rotate .rrc (.reg .h) s⟩
  | .rrc_L => ⟨_, rfl, .rotate .rrc (.reg .l) s⟩
  | .rrc_atHL => ⟨_, rfl, .rotate .rrc .atHL s⟩
  | .rrc_A => ⟨_, rfl, .rotate .rrc (.reg .a) s⟩
  | .rl_B => ⟨_, rfl, .rotate .rl (.reg .b) s⟩
  | .rl_C => ⟨_, rfl, .rotate .rl (.reg .c) s⟩
  | .rl_D => ⟨_, rfl, .rotate .rl (.reg .d) s⟩
  | .rl_E => ⟨_, rfl, .rotate .rl (.reg .e) s⟩
  | .rl_H => ⟨_, rfl, .rotate .rl (.reg .h) s⟩
  | .rl_L => ⟨_, rfl, .rotate .rl (.reg .l) s⟩
  | .rl_atHL => ⟨_, rfl, .rotate .rl .atHL s⟩
  | .rl_A => ⟨_, rfl, .rotate .rl (.reg .a) s⟩
  | .rr_B => ⟨_, rfl, .rotate .rr (.reg .b) s⟩
  | .rr_C => ⟨_, rfl, .rotate .rr (.reg .c) s⟩
  | .rr_D => ⟨_, rfl, .rotate .rr (.reg .d) s⟩
  | .rr_E => ⟨_, rfl, .rotate .rr (.reg .e) s⟩
  | .rr_H => ⟨_, rfl, .rotate .rr (.reg .h) s⟩
  | .rr_L => ⟨_, rfl, .rotate .rr (.reg .l) s⟩
  | .rr_atHL => ⟨_, rfl, .rotate .rr .atHL s⟩
  | .rr_A => ⟨_, rfl, .rotate .rr (.reg .a) s⟩
  | .sla_B => ⟨_, rfl, .rotate .sla (.reg .b) s⟩
  | .sla_C => ⟨_, rfl, .rotate .sla (.reg .c) s⟩
  | .sla_D => ⟨_, rfl, .rotate .sla (.reg .d) s⟩
  | .sla_E => ⟨_, rfl, .rotate .sla (.reg .e) s⟩
  | .sla_H => ⟨_, rfl, .rotate .sla (.reg .h) s⟩
  | .sla_L => ⟨_, rfl, .rotate .sla (.reg .l) s⟩
  | .sla_atHL => ⟨_, rfl, .rotate .sla .atHL s⟩
  | .sla_A => ⟨_, rfl, .rotate .sla (.reg .a) s⟩
  | .sra_B => ⟨_, rfl, .rotate .sra (.reg .b) s⟩
  | .sra_C => ⟨_, rfl, .rotate .sra (.reg .c) s⟩
  | .sra_D => ⟨_, rfl, .rotate .sra (.reg .d) s⟩
  | .sra_E => ⟨_, rfl, .rotate .sra (.reg .e) s⟩
  | .sra_H => ⟨_, rfl, .rotate .sra (.reg .h) s⟩
  | .sra_L => ⟨_, rfl, .rotate .sra (.reg .l) s⟩
  | .sra_atHL => ⟨_, rfl, .rotate .sra .atHL s⟩
  | .sra_A => ⟨_, rfl, .rotate .sra (.reg .a) s⟩
  | .swap_B => ⟨_, rfl, .rotate .swap (.reg .b) s⟩
  | .swap_C => ⟨_, rfl, .rotate .swap (.reg .c) s⟩
  | .swap_D => ⟨_, rfl, .rotate .swap (.reg .d) s⟩
  | .swap_E => ⟨_, rfl, .rotate .swap (.reg .e) s⟩
  | .swap_H => ⟨_, rfl, .rotate .swap (.reg .h) s⟩
  | .swap_L => ⟨_, rfl, .rotate .swap (.reg .l) s⟩
  | .swap_atHL => ⟨_, rfl, .rotate .swap .atHL s⟩
  | .swap_A => ⟨_, rfl, .rotate .swap (.reg .a) s⟩
  | .srl_B => ⟨_, rfl, .rotate .srl (.reg .b) s⟩
  | .srl_C => ⟨_, rfl, .rotate .srl (.reg .c) s⟩
  | .srl_D => ⟨_, rfl, .rotate .srl (.reg .d) s⟩
  | .srl_E => ⟨_, rfl, .rotate .srl (.reg .e) s⟩
  | .srl_H => ⟨_, rfl, .rotate .srl (.reg .h) s⟩
  | .srl_L => ⟨_, rfl, .rotate .srl (.reg .l) s⟩
  | .srl_atHL => ⟨_, rfl, .rotate .srl .atHL s⟩
  | .srl_A => ⟨_, rfl, .rotate .srl (.reg .a) s⟩
  | .bit_0_B => ⟨_, rfl, .bitOperand .n0 (.reg .b) s⟩
  | .bit_0_C => ⟨_, rfl, .bitOperand .n0 (.reg .c) s⟩
  | .bit_0_D => ⟨_, rfl, .bitOperand .n0 (.reg .d) s⟩
  | .bit_0_E => ⟨_, rfl, .bitOperand .n0 (.reg .e) s⟩
  | .bit_0_H => ⟨_, rfl, .bitOperand .n0 (.reg .h) s⟩
  | .bit_0_L => ⟨_, rfl, .bitOperand .n0 (.reg .l) s⟩
  | .bit_0_atHL => ⟨_, rfl, .bitOperand .n0 .atHL s⟩
  | .bit_0_A => ⟨_, rfl, .bitOperand .n0 (.reg .a) s⟩
  | .bit_1_B => ⟨_, rfl, .bitOperand .n1 (.reg .b) s⟩
  | .bit_1_C => ⟨_, rfl, .bitOperand .n1 (.reg .c) s⟩
  | .bit_1_D => ⟨_, rfl, .bitOperand .n1 (.reg .d) s⟩
  | .bit_1_E => ⟨_, rfl, .bitOperand .n1 (.reg .e) s⟩
  | .bit_1_H => ⟨_, rfl, .bitOperand .n1 (.reg .h) s⟩
  | .bit_1_L => ⟨_, rfl, .bitOperand .n1 (.reg .l) s⟩
  | .bit_1_atHL => ⟨_, rfl, .bitOperand .n1 .atHL s⟩
  | .bit_1_A => ⟨_, rfl, .bitOperand .n1 (.reg .a) s⟩
  | .bit_2_B => ⟨_, rfl, .bitOperand .n2 (.reg .b) s⟩
  | .bit_2_C => ⟨_, rfl, .bitOperand .n2 (.reg .c) s⟩
  | .bit_2_D => ⟨_, rfl, .bitOperand .n2 (.reg .d) s⟩
  | .bit_2_E => ⟨_, rfl, .bitOperand .n2 (.reg .e) s⟩
  | .bit_2_H => ⟨_, rfl, .bitOperand .n2 (.reg .h) s⟩
  | .bit_2_L => ⟨_, rfl, .bitOperand .n2 (.reg .l) s⟩
  | .bit_2_atHL => ⟨_, rfl, .bitOperand .n2 .atHL s⟩
  | .bit_2_A => ⟨_, rfl, .bitOperand .n2 (.reg .a) s⟩
  | .bit_3_B => ⟨_, rfl, .bitOperand .n3 (.reg .b) s⟩
  | .bit_3_C => ⟨_, rfl, .bitOperand .n3 (.reg .c) s⟩
  | .bit_3_D => ⟨_, rfl, .bitOperand .n3 (.reg .d) s⟩
  | .bit_3_E => ⟨_, rfl, .bitOperand .n3 (.reg .e) s⟩
  | .bit_3_H => ⟨_, rfl, .bitOperand .n3 (.reg .h) s⟩
  | .bit_3_L => ⟨_, rfl, .bitOperand .n3 (.reg .l) s⟩
  | .bit_3_atHL => ⟨_, rfl, .bitOperand .n3 .atHL s⟩
  | .bit_3_A => ⟨_, rfl, .bitOperand .n3 (.reg .a) s⟩
  | .bit_4_B => ⟨_, rfl, .bitOperand .n4 (.reg .b) s⟩
  | .bit_4_C => ⟨_, rfl, .bitOperand .n4 (.reg .c) s⟩
  | .bit_4_D => ⟨_, rfl, .bitOperand .n4 (.reg .d) s⟩
  | .bit_4_E => ⟨_, rfl, .bitOperand .n4 (.reg .e) s⟩
  | .bit_4_H => ⟨_, rfl, .bitOperand .n4 (.reg .h) s⟩
  | .bit_4_L => ⟨_, rfl, .bitOperand .n4 (.reg .l) s⟩
  | .bit_4_atHL => ⟨_, rfl, .bitOperand .n4 .atHL s⟩
  | .bit_4_A => ⟨_, rfl, .bitOperand .n4 (.reg .a) s⟩
  | .bit_5_B => ⟨_, rfl, .bitOperand .n5 (.reg .b) s⟩
  | .bit_5_C => ⟨_, rfl, .bitOperand .n5 (.reg .c) s⟩
  | .bit_5_D => ⟨_, rfl, .bitOperand .n5 (.reg .d) s⟩
  | .bit_5_E => ⟨_, rfl, .bitOperand .n5 (.reg .e) s⟩
  | .bit_5_H => ⟨_, rfl, .bitOperand .n5 (.reg .h) s⟩
  | .bit_5_L => ⟨_, rfl, .bitOperand .n5 (.reg .l) s⟩
  | .bit_5_atHL => ⟨_, rfl, .bitOperand .n5 .atHL s⟩
  | .bit_5_A => ⟨_, rfl, .bitOperand .n5 (.reg .a) s⟩
  | .bit_6_B => ⟨_, rfl, .bitOperand .n6 (.reg .b) s⟩
  | .bit_6_C => ⟨_, rfl, .bitOperand .n6 (.reg .c) s⟩
  | .bit_6_D => ⟨_, rfl, .bitOperand .n6 (.reg .d) s⟩
  | .bit_6_E => ⟨_, rfl, .bitOperand .n6 (.reg .e) s⟩
  | .bit_6_H => ⟨_, rfl, .bitOperand .n6 (.reg .h) s⟩
  | .bit_6_L => ⟨_, rfl, .bitOperand .n6 (.reg .l) s⟩
  | .bit_6_atHL => ⟨_, rfl, .bitOperand .n6 .atHL s⟩
  | .bit_6_A => ⟨_, rfl, .bitOperand .n6 (.reg .a) s⟩
  | .bit_7_B => ⟨_, rfl, .bitOperand .n7 (.reg .b) s⟩
  | .bit_7_C => ⟨_, rfl, .bitOperand .n7 (.reg .c) s⟩
  | .bit_7_D => ⟨_, rfl, .bitOperand .n7 (.reg .d) s⟩
  | .bit_7_E => ⟨_, rfl, .bitOperand .n7 (.reg .e) s⟩
  | .bit_7_H => ⟨_, rfl, .bitOperand .n7 (.reg .h) s⟩
  | .bit_7_L => ⟨_, rfl, .bitOperand .n7 (.reg .l) s⟩
  | .bit_7_atHL => ⟨_, rfl, .bitOperand .n7 .atHL s⟩
  | .bit_7_A => ⟨_, rfl, .bitOperand .n7 (.reg .a) s⟩
  | .res_0_B => ⟨_, rfl, .resOperand .n0 (.reg .b) s⟩
  | .res_0_C => ⟨_, rfl, .resOperand .n0 (.reg .c) s⟩
  | .res_0_D => ⟨_, rfl, .resOperand .n0 (.reg .d) s⟩
  | .res_0_E => ⟨_, rfl, .resOperand .n0 (.reg .e) s⟩
  | .res_0_H => ⟨_, rfl, .resOperand .n0 (.reg .h) s⟩
  | .res_0_L => ⟨_, rfl, .resOperand .n0 (.reg .l) s⟩
  | .res_0_atHL => ⟨_, rfl, .resOperand .n0 .atHL s⟩
  | .res_0_A => ⟨_, rfl, .resOperand .n0 (.reg .a) s⟩
  | .res_1_B => ⟨_, rfl, .resOperand .n1 (.reg .b) s⟩
  | .res_1_C => ⟨_, rfl, .resOperand .n1 (.reg .c) s⟩
  | .res_1_D => ⟨_, rfl, .resOperand .n1 (.reg .d) s⟩
  | .res_1_E => ⟨_, rfl, .resOperand .n1 (.reg .e) s⟩
  | .res_1_H => ⟨_, rfl, .resOperand .n1 (.reg .h) s⟩
  | .res_1_L => ⟨_, rfl, .resOperand .n1 (.reg .l) s⟩
  | .res_1_atHL => ⟨_, rfl, .resOperand .n1 .atHL s⟩
  | .res_1_A => ⟨_, rfl, .resOperand .n1 (.reg .a) s⟩
  | .res_2_B => ⟨_, rfl, .resOperand .n2 (.reg .b) s⟩
  | .res_2_C => ⟨_, rfl, .resOperand .n2 (.reg .c) s⟩
  | .res_2_D => ⟨_, rfl, .resOperand .n2 (.reg .d) s⟩
  | .res_2_E => ⟨_, rfl, .resOperand .n2 (.reg .e) s⟩
  | .res_2_H => ⟨_, rfl, .resOperand .n2 (.reg .h) s⟩
  | .res_2_L => ⟨_, rfl, .resOperand .n2 (.reg .l) s⟩
  | .res_2_atHL => ⟨_, rfl, .resOperand .n2 .atHL s⟩
  | .res_2_A => ⟨_, rfl, .resOperand .n2 (.reg .a) s⟩
  | .res_3_B => ⟨_, rfl, .resOperand .n3 (.reg .b) s⟩
  | .res_3_C => ⟨_, rfl, .resOperand .n3 (.reg .c) s⟩
  | .res_3_D => ⟨_, rfl, .resOperand .n3 (.reg .d) s⟩
  | .res_3_E => ⟨_, rfl, .resOperand .n3 (.reg .e) s⟩
  | .res_3_H => ⟨_, rfl, .resOperand .n3 (.reg .h) s⟩
  | .res_3_L => ⟨_, rfl, .resOperand .n3 (.reg .l) s⟩
  | .res_3_atHL => ⟨_, rfl, .resOperand .n3 .atHL s⟩
  | .res_3_A => ⟨_, rfl, .resOperand .n3 (.reg .a) s⟩
  | .res_4_B => ⟨_, rfl, .resOperand .n4 (.reg .b) s⟩
  | .res_4_C => ⟨_, rfl, .resOperand .n4 (.reg .c) s⟩
  | .res_4_D => ⟨_, rfl, .resOperand .n4 (.reg .d) s⟩
  | .res_4_E => ⟨_, rfl, .resOperand .n4 (.reg .e) s⟩
  | .res_4_H => ⟨_, rfl, .resOperand .n4 (.reg .h) s⟩
  | .res_4_L => ⟨_, rfl, .resOperand .n4 (.reg .l) s⟩
  | .res_4_atHL => ⟨_, rfl, .resOperand .n4 .atHL s⟩
  | .res_4_A => ⟨_, rfl, .resOperand .n4 (.reg .a) s⟩
  | .res_5_B => ⟨_, rfl, .resOperand .n5 (.reg .b) s⟩
  | .res_5_C => ⟨_, rfl, .resOperand .n5 (.reg .c) s⟩
  | .res_5_D => ⟨_, rfl, .resOperand .n5 (.reg .d) s⟩
  | .res_5_E => ⟨_, rfl, .resOperand .n5 (.reg .e) s⟩
  | .res_5_H => ⟨_, rfl, .resOperand .n5 (.reg .h) s⟩
  | .res_5_L => ⟨_, rfl, .resOperand .n5 (.reg .l) s⟩
  | .res_5_atHL => ⟨_, rfl, .resOperand .n5 .atHL s⟩
  | .res_5_A => ⟨_, rfl, .resOperand .n5 (.reg .a) s⟩
  | .res_6_B => ⟨_, rfl, .resOperand .n6 (.reg .b) s⟩
  | .res_6_C => ⟨_, rfl, .resOperand .n6 (.reg .c) s⟩
  | .res_6_D => ⟨_, rfl, .resOperand .n6 (.reg .d) s⟩
  | .res_6_E => ⟨_, rfl, .resOperand .n6 (.reg .e) s⟩
  | .res_6_H => ⟨_, rfl, .resOperand .n6 (.reg .h) s⟩
  | .res_6_L => ⟨_, rfl, .resOperand .n6 (.reg .l) s⟩
  | .res_6_atHL => ⟨_, rfl, .resOperand .n6 .atHL s⟩
  | .res_6_A => ⟨_, rfl, .resOperand .n6 (.reg .a) s⟩
  | .res_7_B => ⟨_, rfl, .resOperand .n7 (.reg .b) s⟩
  | .res_7_C => ⟨_, rfl, .resOperand .n7 (.reg .c) s⟩
  | .res_7_D => ⟨_, rfl, .resOperand .n7 (.reg .d) s⟩
  | .res_7_E => ⟨_, rfl, .resOperand .n7 (.reg .e) s⟩
  | .res_7_H => ⟨_, rfl, .resOperand .n7 (.reg .h) s⟩
  | .res_7_L => ⟨_, rfl, .resOperand .n7 (.reg .l) s⟩
  | .res_7_atHL => ⟨_, rfl, .resOperand .n7 .atHL s⟩
  | .res_7_A => ⟨_, rfl, .resOperand .n7 (.reg .a) s⟩
  | .set_0_B => ⟨_, rfl, .setOperand .n0 (.reg .b) s⟩
  | .set_0_C => ⟨_, rfl, .setOperand .n0 (.reg .c) s⟩
  | .set_0_D => ⟨_, rfl, .setOperand .n0 (.reg .d) s⟩
  | .set_0_E => ⟨_, rfl, .setOperand .n0 (.reg .e) s⟩
  | .set_0_H => ⟨_, rfl, .setOperand .n0 (.reg .h) s⟩
  | .set_0_L => ⟨_, rfl, .setOperand .n0 (.reg .l) s⟩
  | .set_0_atHL => ⟨_, rfl, .setOperand .n0 .atHL s⟩
  | .set_0_A => ⟨_, rfl, .setOperand .n0 (.reg .a) s⟩
  | .set_1_B => ⟨_, rfl, .setOperand .n1 (.reg .b) s⟩
  | .set_1_C => ⟨_, rfl, .setOperand .n1 (.reg .c) s⟩
  | .set_1_D => ⟨_, rfl, .setOperand .n1 (.reg .d) s⟩
  | .set_1_E => ⟨_, rfl, .setOperand .n1 (.reg .e) s⟩
  | .set_1_H => ⟨_, rfl, .setOperand .n1 (.reg .h) s⟩
  | .set_1_L => ⟨_, rfl, .setOperand .n1 (.reg .l) s⟩
  | .set_1_atHL => ⟨_, rfl, .setOperand .n1 .atHL s⟩
  | .set_1_A => ⟨_, rfl, .setOperand .n1 (.reg .a) s⟩
  | .set_2_B => ⟨_, rfl, .setOperand .n2 (.reg .b) s⟩
  | .set_2_C => ⟨_, rfl, .setOperand .n2 (.reg .c) s⟩
  | .set_2_D => ⟨_, rfl, .setOperand .n2 (.reg .d) s⟩
  | .set_2_E => ⟨_, rfl, .setOperand .n2 (.reg .e) s⟩
  | .set_2_H => ⟨_, rfl, .setOperand .n2 (.reg .h) s⟩
  | .set_2_L => ⟨_, rfl, .setOperand .n2 (.reg .l) s⟩
  | .set_2_atHL => ⟨_, rfl, .setOperand .n2 .atHL s⟩
  | .set_2_A => ⟨_, rfl, .setOperand .n2 (.reg .a) s⟩
  | .set_3_B => ⟨_, rfl, .setOperand .n3 (.reg .b) s⟩
  | .set_3_C => ⟨_, rfl, .setOperand .n3 (.reg .c) s⟩
  | .set_3_D => ⟨_, rfl, .setOperand .n3 (.reg .d) s⟩
  | .set_3_E => ⟨_, rfl, .setOperand .n3 (.reg .e) s⟩
  | .set_3_H => ⟨_, rfl, .setOperand .n3 (.reg .h) s⟩
  | .set_3_L => ⟨_, rfl, .setOperand .n3 (.reg .l) s⟩
  | .set_3_atHL => ⟨_, rfl, .setOperand .n3 .atHL s⟩
  | .set_3_A => ⟨_, rfl, .setOperand .n3 (.reg .a) s⟩
  | .set_4_B => ⟨_, rfl, .setOperand .n4 (.reg .b) s⟩
  | .set_4_C => ⟨_, rfl, .setOperand .n4 (.reg .c) s⟩
  | .set_4_D => ⟨_, rfl, .setOperand .n4 (.reg .d) s⟩
  | .set_4_E => ⟨_, rfl, .setOperand .n4 (.reg .e) s⟩
  | .set_4_H => ⟨_, rfl, .setOperand .n4 (.reg .h) s⟩
  | .set_4_L => ⟨_, rfl, .setOperand .n4 (.reg .l) s⟩
  | .set_4_atHL => ⟨_, rfl, .setOperand .n4 .atHL s⟩
  | .set_4_A => ⟨_, rfl, .setOperand .n4 (.reg .a) s⟩
  | .set_5_B => ⟨_, rfl, .setOperand .n5 (.reg .b) s⟩
  | .set_5_C => ⟨_, rfl, .setOperand .n5 (.reg .c) s⟩
  | .set_5_D => ⟨_, rfl, .setOperand .n5 (.reg .d) s⟩
  | .set_5_E => ⟨_, rfl, .setOperand .n5 (.reg .e) s⟩
  | .set_5_H => ⟨_, rfl, .setOperand .n5 (.reg .h) s⟩
  | .set_5_L => ⟨_, rfl, .setOperand .n5 (.reg .l) s⟩
  | .set_5_atHL => ⟨_, rfl, .setOperand .n5 .atHL s⟩
  | .set_5_A => ⟨_, rfl, .setOperand .n5 (.reg .a) s⟩
  | .set_6_B => ⟨_, rfl, .setOperand .n6 (.reg .b) s⟩
  | .set_6_C => ⟨_, rfl, .setOperand .n6 (.reg .c) s⟩
  | .set_6_D => ⟨_, rfl, .setOperand .n6 (.reg .d) s⟩
  | .set_6_E => ⟨_, rfl, .setOperand .n6 (.reg .e) s⟩
  | .set_6_H => ⟨_, rfl, .setOperand .n6 (.reg .h) s⟩
  | .set_6_L => ⟨_, rfl, .setOperand .n6 (.reg .l) s⟩
  | .set_6_atHL => ⟨_, rfl, .setOperand .n6 .atHL s⟩
  | .set_6_A => ⟨_, rfl, .setOperand .n6 (.reg .a) s⟩
  | .set_7_B => ⟨_, rfl, .setOperand .n7 (.reg .b) s⟩
  | .set_7_C => ⟨_, rfl, .setOperand .n7 (.reg .c) s⟩
  | .set_7_D => ⟨_, rfl, .setOperand .n7 (.reg .d) s⟩
  | .set_7_E => ⟨_, rfl, .setOperand .n7 (.reg .e) s⟩
  | .set_7_H => ⟨_, rfl, .setOperand .n7 (.reg .h) s⟩
  | .set_7_L => ⟨_, rfl, .setOperand .n7 (.reg .l) s⟩
  | .set_7_atHL => ⟨_, rfl, .setOperand .n7 .atHL s⟩
  | .set_7_A => ⟨_, rfl, .setOperand .n7 (.reg .a) s⟩

/-- The converse reading, for a state that `exec` is known to answer. -/
theorem effect_of_exec {i : Instr} {s t : State} (h : exec i s = .next t) : Effect i s t := by
  obtain ⟨u, hu, he⟩ := exec_effect i s
  rw [h] at hu
  cases hu
  exact he

end Sys2Proof.Machine
end

