-- ==== Sys2Proof/Laws/State.lean ====
section
/-! SUPPORT. One lemma per field per update of the state: what each named update leaves and what it sets. -/

namespace Sys2Proof.Machine

variable (s : State)

/-! ### setReg8 -/

@[simp] theorem State.setReg8_ime (n : Reg8) (v : Byte) : (s.setReg8 n v).ime = s.ime := rfl
@[simp] theorem State.setReg8_ie (n : Reg8) (v : Byte) : (s.setReg8 n v).ie = s.ie := rfl
@[simp] theorem State.setReg8_ifr (n : Reg8) (v : Byte) : (s.setReg8 n v).ifr = s.ifr := rfl
@[simp] theorem State.setReg8_halted (n : Reg8) (v : Byte) : (s.setReg8 n v).halted = s.halted := rfl
@[simp] theorem State.setReg8_branchTaken (n : Reg8) (v : Byte) : (s.setReg8 n v).branchTaken = s.branchTaken := rfl
@[simp] theorem State.setReg8_fault (n : Reg8) (v : Byte) : (s.setReg8 n v).fault = s.fault := rfl
@[simp] theorem State.setReg8_mem (n : Reg8) (v : Byte) : (s.setReg8 n v).mem = s.mem := rfl
@[simp] theorem State.setReg8_bootRom (n : Reg8) (v : Byte) : (s.setReg8 n v).bootRom = s.bootRom := rfl
@[simp] theorem State.setReg8_cart (n : Reg8) (v : Byte) : (s.setReg8 n v).cart = s.cart := rfl
@[simp] theorem State.setReg8_ctrl (n : Reg8) (v : Byte) : (s.setReg8 n v).ctrl = s.ctrl := rfl
@[simp] theorem State.setReg8_lcd (n : Reg8) (v : Byte) : (s.setReg8 n v).lcd = s.lcd := rfl
@[simp] theorem State.setReg8_sink (n : Reg8) (v : Byte) : (s.setReg8 n v).sink = s.sink := rfl

/-! ### setReg16 -/

@[simp] theorem State.setReg16_ime (p : Pair) (v : Word) : (s.setReg16 p v).ime = s.ime := rfl
@[simp] theorem State.setReg16_ie (p : Pair) (v : Word) : (s.setReg16 p v).ie = s.ie := rfl
@[simp] theorem State.setReg16_ifr (p : Pair) (v : Word) : (s.setReg16 p v).ifr = s.ifr := rfl
@[simp] theorem State.setReg16_halted (p : Pair) (v : Word) : (s.setReg16 p v).halted = s.halted := rfl
@[simp] theorem State.setReg16_branchTaken (p : Pair) (v : Word) : (s.setReg16 p v).branchTaken = s.branchTaken := rfl
@[simp] theorem State.setReg16_fault (p : Pair) (v : Word) : (s.setReg16 p v).fault = s.fault := rfl
@[simp] theorem State.setReg16_mem (p : Pair) (v : Word) : (s.setReg16 p v).mem = s.mem := rfl
@[simp] theorem State.setReg16_bootRom (p : Pair) (v : Word) : (s.setReg16 p v).bootRom = s.bootRom := rfl
@[simp] theorem State.setReg16_cart (p : Pair) (v : Word) : (s.setReg16 p v).cart = s.cart := rfl
@[simp] theorem State.setReg16_ctrl (p : Pair) (v : Word) : (s.setReg16 p v).ctrl = s.ctrl := rfl
@[simp] theorem State.setReg16_lcd (p : Pair) (v : Word) : (s.setReg16 p v).lcd = s.lcd := rfl
@[simp] theorem State.setReg16_sink (p : Pair) (v : Word) : (s.setReg16 p v).sink = s.sink := rfl

/-! ### setPc -/

@[simp] theorem State.setPc_ime (v : Word) : (s.setPc v).ime = s.ime := rfl
@[simp] theorem State.setPc_ie (v : Word) : (s.setPc v).ie = s.ie := rfl
@[simp] theorem State.setPc_ifr (v : Word) : (s.setPc v).ifr = s.ifr := rfl
@[simp] theorem State.setPc_halted (v : Word) : (s.setPc v).halted = s.halted := rfl
@[simp] theorem State.setPc_branchTaken (v : Word) : (s.setPc v).branchTaken = s.branchTaken := rfl
@[simp] theorem State.setPc_fault (v : Word) : (s.setPc v).fault = s.fault := rfl
@[simp] theorem State.setPc_mem (v : Word) : (s.setPc v).mem = s.mem := rfl
@[simp] theorem State.setPc_bootRom (v : Word) : (s.setPc v).bootRom = s.bootRom := rfl
@[simp] theorem State.setPc_cart (v : Word) : (s.setPc v).cart = s.cart := rfl
@[simp] theorem State.setPc_ctrl (v : Word) : (s.setPc v).ctrl = s.ctrl := rfl
@[simp] theorem State.setPc_lcd (v : Word) : (s.setPc v).lcd = s.lcd := rfl
@[simp] theorem State.setPc_sink (v : Word) : (s.setPc v).sink = s.sink := rfl

/-! ### setSp -/

@[simp] theorem State.setSp_ime (v : Word) : (s.setSp v).ime = s.ime := rfl
@[simp] theorem State.setSp_ie (v : Word) : (s.setSp v).ie = s.ie := rfl
@[simp] theorem State.setSp_ifr (v : Word) : (s.setSp v).ifr = s.ifr := rfl
@[simp] theorem State.setSp_halted (v : Word) : (s.setSp v).halted = s.halted := rfl
@[simp] theorem State.setSp_branchTaken (v : Word) : (s.setSp v).branchTaken = s.branchTaken := rfl
@[simp] theorem State.setSp_fault (v : Word) : (s.setSp v).fault = s.fault := rfl
@[simp] theorem State.setSp_mem (v : Word) : (s.setSp v).mem = s.mem := rfl
@[simp] theorem State.setSp_bootRom (v : Word) : (s.setSp v).bootRom = s.bootRom := rfl
@[simp] theorem State.setSp_cart (v : Word) : (s.setSp v).cart = s.cart := rfl
@[simp] theorem State.setSp_ctrl (v : Word) : (s.setSp v).ctrl = s.ctrl := rfl
@[simp] theorem State.setSp_lcd (v : Word) : (s.setSp v).lcd = s.lcd := rfl
@[simp] theorem State.setSp_sink (v : Word) : (s.setSp v).sink = s.sink := rfl

/-! ### setFlags -/

@[simp] theorem State.setFlags_ime (z n h c : Bool) : (s.setFlags z n h c).ime = s.ime := rfl
@[simp] theorem State.setFlags_ie (z n h c : Bool) : (s.setFlags z n h c).ie = s.ie := rfl
@[simp] theorem State.setFlags_ifr (z n h c : Bool) : (s.setFlags z n h c).ifr = s.ifr := rfl
@[simp] theorem State.setFlags_halted (z n h c : Bool) : (s.setFlags z n h c).halted = s.halted := rfl
@[simp] theorem State.setFlags_branchTaken (z n h c : Bool) : (s.setFlags z n h c).branchTaken = s.branchTaken := rfl
@[simp] theorem State.setFlags_fault (z n h c : Bool) : (s.setFlags z n h c).fault = s.fault := rfl
@[simp] theorem State.setFlags_mem (z n h c : Bool) : (s.setFlags z n h c).mem = s.mem := rfl
@[simp] theorem State.setFlags_bootRom (z n h c : Bool) : (s.setFlags z n h c).bootRom = s.bootRom := rfl
@[simp] theorem State.setFlags_cart (z n h c : Bool) : (s.setFlags z n h c).cart = s.cart := rfl
@[simp] theorem State.setFlags_ctrl (z n h c : Bool) : (s.setFlags z n h c).ctrl = s.ctrl := rfl
@[simp] theorem State.setFlags_lcd (z n h c : Bool) : (s.setFlags z n h c).lcd = s.lcd := rfl
@[simp] theorem State.setFlags_sink (z n h c : Bool) : (s.setFlags z n h c).sink = s.sink := rfl

/-! ### setCell -/

@[simp] theorem State.setCell_regs (a : Nat) (v : Byte) : (s.setCell a v).regs = s.regs := rfl
@[simp] theorem State.setCell_ime (a : Nat) (v : Byte) : (s.setCell a v).ime = s.ime := rfl
@[simp] theorem State.setCell_ie (a : Nat) (v : Byte) : (s.setCell a v).ie = s.ie := rfl
@[simp] theorem State.setCell_ifr (a : Nat) (v : Byte) : (s.setCell a v).ifr = s.ifr := rfl
@[simp] theorem State.setCell_halted (a : Nat) (v : Byte) : (s.setCell a v).halted = s.halted := rfl
@[simp] theorem State.setCell_branchTaken (a : Nat) (v : Byte) : (s.setCell a v).branchTaken = s.branchTaken := rfl
@[simp] theorem State.setCell_fault (a : Nat) (v : Byte) : (s.setCell a v).fault = s.fault := rfl
@[simp] theorem State.setCell_bootRom (a : Nat) (v : Byte) : (s.setCell a v).bootRom = s.bootRom := rfl
@[simp] theorem State.setCell_cart (a : Nat) (v : Byte) : (s.setCell a v).cart = s.cart := rfl
@[simp] theorem State.setCell_ctrl (a : Nat) (v : Byte) : (s.setCell a v).ctrl = s.ctrl := rfl
@[simp] theorem State.setCell_lcd (a : Nat) (v : Byte) : (s.setCell a v).lcd = s.lcd := rfl
@[simp] theorem State.setCell_sink (a : Nat) (v : Byte) : (s.setCell a v).sink = s.sink := rfl

/-! ### request -/

@[simp] theorem State.request_regs (k : IntKind) : (s.request k).regs = s.regs := rfl
@[simp] theorem State.request_ime (k : IntKind) : (s.request k).ime = s.ime := rfl
@[simp] theorem State.request_ie (k : IntKind) : (s.request k).ie = s.ie := rfl
@[simp] theorem State.request_halted (k : IntKind) : (s.request k).halted = s.halted := rfl
@[simp] theorem State.request_branchTaken (k : IntKind) : (s.request k).branchTaken = s.branchTaken := rfl
@[simp] theorem State.request_fault (k : IntKind) : (s.request k).fault = s.fault := rfl
@[simp] theorem State.request_mem (k : IntKind) : (s.request k).mem = s.mem := rfl
@[simp] theorem State.request_bootRom (k : IntKind) : (s.request k).bootRom = s.bootRom := rfl
@[simp] theorem State.request_cart (k : IntKind) : (s.request k).cart = s.cart := rfl
@[simp] theorem State.request_ctrl (k : IntKind) : (s.request k).ctrl = s.ctrl := rfl
@[simp] theorem State.request_lcd (k : IntKind) : (s.request k).lcd = s.lcd := rfl
@[simp] theorem State.request_sink (k : IntKind) : (s.request k).sink = s.sink := rfl

/-! ### raiseFatal -/

@[simp] theorem State.raiseFatal_regs (op : Byte) : (s.raiseFatal op).regs = s.regs := rfl
@[simp] theorem State.raiseFatal_ime (op : Byte) : (s.raiseFatal op).ime = s.ime := rfl
@[simp] theorem State.raiseFatal_ie (op : Byte) : (s.raiseFatal op).ie = s.ie := rfl
@[simp] theorem State.raiseFatal_ifr (op : Byte) : (s.raiseFatal op).ifr = s.ifr := rfl
@[simp] theorem State.raiseFatal_halted (op : Byte) : (s.raiseFatal op).halted = s.halted := rfl
@[simp] theorem State.raiseFatal_branchTaken (op : Byte) : (s.raiseFatal op).branchTaken = s.branchTaken := rfl
@[simp] theorem State.raiseFatal_mem (op : Byte) : (s.raiseFatal op).mem = s.mem := rfl
@[simp] theorem State.raiseFatal_bootRom (op : Byte) : (s.raiseFatal op).bootRom = s.bootRom := rfl
@[simp] theorem State.raiseFatal_cart (op : Byte) : (s.raiseFatal op).cart = s.cart := rfl
@[simp] theorem State.raiseFatal_ctrl (op : Byte) : (s.raiseFatal op).ctrl = s.ctrl := rfl
@[simp] theorem State.raiseFatal_lcd (op : Byte) : (s.raiseFatal op).lcd = s.lcd := rfl
@[simp] theorem State.raiseFatal_sink (op : Byte) : (s.raiseFatal op).sink = s.sink := rfl

/-! ### takeBranch -/

@[simp] theorem State.takeBranch_regs : (s.takeBranch).regs = s.regs := rfl
@[simp] theorem State.takeBranch_ime : (s.takeBranch).ime = s.ime := rfl
@[simp] theorem State.takeBranch_ie : (s.takeBranch).ie = s.ie := rfl
@[simp] theorem State.takeBranch_ifr : (s.takeBranch).ifr = s.ifr := rfl
@[simp] theorem State.takeBranch_halted : (s.takeBranch).halted = s.halted := rfl
@[simp] theorem State.takeBranch_fault : (s.takeBranch).fault = s.fault := rfl
@[simp] theorem State.takeBranch_mem : (s.takeBranch).mem = s.mem := rfl
@[simp] theorem State.takeBranch_bootRom : (s.takeBranch).bootRom = s.bootRom := rfl
@[simp] theorem State.takeBranch_cart : (s.takeBranch).cart = s.cart := rfl
@[simp] theorem State.takeBranch_ctrl : (s.takeBranch).ctrl = s.ctrl := rfl
@[simp] theorem State.takeBranch_lcd : (s.takeBranch).lcd = s.lcd := rfl
@[simp] theorem State.takeBranch_sink : (s.takeBranch).sink = s.sink := rfl

/-! ### popSp -/

@[simp] theorem State.popSp_ime : (s.popSp).ime = s.ime := rfl
@[simp] theorem State.popSp_ie : (s.popSp).ie = s.ie := rfl
@[simp] theorem State.popSp_ifr : (s.popSp).ifr = s.ifr := rfl
@[simp] theorem State.popSp_halted : (s.popSp).halted = s.halted := rfl
@[simp] theorem State.popSp_branchTaken : (s.popSp).branchTaken = s.branchTaken := rfl
@[simp] theorem State.popSp_fault : (s.popSp).fault = s.fault := rfl
@[simp] theorem State.popSp_mem : (s.popSp).mem = s.mem := rfl
@[simp] theorem State.popSp_bootRom : (s.popSp).bootRom = s.bootRom := rfl
@[simp] theorem State.popSp_cart : (s.popSp).cart = s.cart := rfl
@[simp] theorem State.popSp_ctrl : (s.popSp).ctrl = s.ctrl := rfl
@[simp] theorem State.popSp_lcd : (s.popSp).lcd = s.lcd := rfl
@[simp] theorem State.popSp_sink : (s.popSp).sink = s.sink := rfl

/-! ### setMode -/

@[simp] theorem State.setMode_regs (m : Mode) : (s.setMode m).regs = s.regs := rfl
@[simp] theorem State.setMode_ime (m : Mode) : (s.setMode m).ime = s.ime := rfl
@[simp] theorem State.setMode_ie (m : Mode) : (s.setMode m).ie = s.ie := rfl
@[simp] theorem State.setMode_ifr (m : Mode) : (s.setMode m).ifr = s.ifr := rfl
@[simp] theorem State.setMode_halted (m : Mode) : (s.setMode m).halted = s.halted := rfl
@[simp] theorem State.setMode_branchTaken (m : Mode) : (s.setMode m).branchTaken = s.branchTaken := rfl
@[simp] theorem State.setMode_fault (m : Mode) : (s.setMode m).fault = s.fault := rfl
@[simp] theorem State.setMode_mem (m : Mode) : (s.setMode m).mem = s.mem := rfl
@[simp] theorem State.setMode_bootRom (m : Mode) : (s.setMode m).bootRom = s.bootRom := rfl
@[simp] theorem State.setMode_cart (m : Mode) : (s.setMode m).cart = s.cart := rfl
@[simp] theorem State.setMode_ctrl (m : Mode) : (s.setMode m).ctrl = s.ctrl := rfl
@[simp] theorem State.setMode_sink (m : Mode) : (s.setMode m).sink = s.sink := rfl

/-! ### setLy -/

@[simp] theorem State.setLy_regs (v : Byte) : (s.setLy v).regs = s.regs := rfl
@[simp] theorem State.setLy_ime (v : Byte) : (s.setLy v).ime = s.ime := rfl
@[simp] theorem State.setLy_ie (v : Byte) : (s.setLy v).ie = s.ie := rfl
@[simp] theorem State.setLy_ifr (v : Byte) : (s.setLy v).ifr = s.ifr := rfl
@[simp] theorem State.setLy_halted (v : Byte) : (s.setLy v).halted = s.halted := rfl
@[simp] theorem State.setLy_branchTaken (v : Byte) : (s.setLy v).branchTaken = s.branchTaken := rfl
@[simp] theorem State.setLy_fault (v : Byte) : (s.setLy v).fault = s.fault := rfl
@[simp] theorem State.setLy_mem (v : Byte) : (s.setLy v).mem = s.mem := rfl
@[simp] theorem State.setLy_bootRom (v : Byte) : (s.setLy v).bootRom = s.bootRom := rfl
@[simp] theorem State.setLy_cart (v : Byte) : (s.setLy v).cart = s.cart := rfl
@[simp] theorem State.setLy_ctrl (v : Byte) : (s.setLy v).ctrl = s.ctrl := rfl
@[simp] theorem State.setLy_sink (v : Byte) : (s.setLy v).sink = s.sink := rfl

/-! ### setCoincidence -/

@[simp] theorem State.setCoincidence_regs (b : Bool) : (s.setCoincidence b).regs = s.regs := rfl
@[simp] theorem State.setCoincidence_ime (b : Bool) : (s.setCoincidence b).ime = s.ime := rfl
@[simp] theorem State.setCoincidence_ie (b : Bool) : (s.setCoincidence b).ie = s.ie := rfl
@[simp] theorem State.setCoincidence_ifr (b : Bool) : (s.setCoincidence b).ifr = s.ifr := rfl
@[simp] theorem State.setCoincidence_halted (b : Bool) : (s.setCoincidence b).halted = s.halted := rfl
@[simp] theorem State.setCoincidence_branchTaken (b : Bool) : (s.setCoincidence b).branchTaken = s.branchTaken := rfl
@[simp] theorem State.setCoincidence_fault (b : Bool) : (s.setCoincidence b).fault = s.fault := rfl
@[simp] theorem State.setCoincidence_mem (b : Bool) : (s.setCoincidence b).mem = s.mem := rfl
@[simp] theorem State.setCoincidence_bootRom (b : Bool) : (s.setCoincidence b).bootRom = s.bootRom := rfl
@[simp] theorem State.setCoincidence_cart (b : Bool) : (s.setCoincidence b).cart = s.cart := rfl
@[simp] theorem State.setCoincidence_ctrl (b : Bool) : (s.setCoincidence b).ctrl = s.ctrl := rfl
@[simp] theorem State.setCoincidence_sink (b : Bool) : (s.setCoincidence b).sink = s.sink := rfl

/-! ### setAcc -/

@[simp] theorem State.setAcc_regs (n : Nat) : (s.setAcc n).regs = s.regs := rfl
@[simp] theorem State.setAcc_ime (n : Nat) : (s.setAcc n).ime = s.ime := rfl
@[simp] theorem State.setAcc_ie (n : Nat) : (s.setAcc n).ie = s.ie := rfl
@[simp] theorem State.setAcc_ifr (n : Nat) : (s.setAcc n).ifr = s.ifr := rfl
@[simp] theorem State.setAcc_halted (n : Nat) : (s.setAcc n).halted = s.halted := rfl
@[simp] theorem State.setAcc_branchTaken (n : Nat) : (s.setAcc n).branchTaken = s.branchTaken := rfl
@[simp] theorem State.setAcc_fault (n : Nat) : (s.setAcc n).fault = s.fault := rfl
@[simp] theorem State.setAcc_mem (n : Nat) : (s.setAcc n).mem = s.mem := rfl
@[simp] theorem State.setAcc_bootRom (n : Nat) : (s.setAcc n).bootRom = s.bootRom := rfl
@[simp] theorem State.setAcc_cart (n : Nat) : (s.setAcc n).cart = s.cart := rfl
@[simp] theorem State.setAcc_ctrl (n : Nat) : (s.setAcc n).ctrl = s.ctrl := rfl
@[simp] theorem State.setAcc_sink (n : Nat) : (s.setAcc n).sink = s.sink := rfl

/-! ### paint -/

@[simp] theorem State.paint_regs : (s.paint).regs = s.regs := rfl
@[simp] theorem State.paint_ime : (s.paint).ime = s.ime := rfl
@[simp] theorem State.paint_ie : (s.paint).ie = s.ie := rfl
@[simp] theorem State.paint_ifr : (s.paint).ifr = s.ifr := rfl
@[simp] theorem State.paint_halted : (s.paint).halted = s.halted := rfl
@[simp] theorem State.paint_branchTaken : (s.paint).branchTaken = s.branchTaken := rfl
@[simp] theorem State.paint_fault : (s.paint).fault = s.fault := rfl
@[simp] theorem State.paint_mem : (s.paint).mem = s.mem := rfl
@[simp] theorem State.paint_bootRom : (s.paint).bootRom = s.bootRom := rfl
@[simp] theorem State.paint_cart : (s.paint).cart = s.cart := rfl
@[simp] theorem State.paint_ctrl : (s.paint).ctrl = s.ctrl := rfl
@[simp] theorem State.paint_lcd : (s.paint).lcd = s.lcd := rfl

/-! ### renderBgLine -/

@[simp] theorem State.renderBgLine_regs (line : Nat) : (s.renderBgLine line).regs = s.regs := rfl
@[simp] theorem State.renderBgLine_ime (line : Nat) : (s.renderBgLine line).ime = s.ime := rfl
@[simp] theorem State.renderBgLine_ie (line : Nat) : (s.renderBgLine line).ie = s.ie := rfl
@[simp] theorem State.renderBgLine_ifr (line : Nat) : (s.renderBgLine line).ifr = s.ifr := rfl
@[simp] theorem State.renderBgLine_halted (line : Nat) : (s.renderBgLine line).halted = s.halted := rfl
@[simp] theorem State.renderBgLine_branchTaken (line : Nat) : (s.renderBgLine line).branchTaken = s.branchTaken := rfl
@[simp] theorem State.renderBgLine_fault (line : Nat) : (s.renderBgLine line).fault = s.fault := rfl
@[simp] theorem State.renderBgLine_mem (line : Nat) : (s.renderBgLine line).mem = s.mem := rfl
@[simp] theorem State.renderBgLine_bootRom (line : Nat) : (s.renderBgLine line).bootRom = s.bootRom := rfl
@[simp] theorem State.renderBgLine_cart (line : Nat) : (s.renderBgLine line).cart = s.cart := rfl
@[simp] theorem State.renderBgLine_ctrl (line : Nat) : (s.renderBgLine line).ctrl = s.ctrl := rfl
@[simp] theorem State.renderBgLine_sink (line : Nat) : (s.renderBgLine line).sink = s.sink := rfl

/-! ### renderSprites -/

@[simp] theorem State.renderSprites_regs : (s.renderSprites).regs = s.regs := rfl
@[simp] theorem State.renderSprites_ime : (s.renderSprites).ime = s.ime := rfl
@[simp] theorem State.renderSprites_ie : (s.renderSprites).ie = s.ie := rfl
@[simp] theorem State.renderSprites_ifr : (s.renderSprites).ifr = s.ifr := rfl
@[simp] theorem State.renderSprites_halted : (s.renderSprites).halted = s.halted := rfl
@[simp] theorem State.renderSprites_branchTaken : (s.renderSprites).branchTaken = s.branchTaken := rfl
@[simp] theorem State.renderSprites_fault : (s.renderSprites).fault = s.fault := rfl
@[simp] theorem State.renderSprites_mem : (s.renderSprites).mem = s.mem := rfl
@[simp] theorem State.renderSprites_bootRom : (s.renderSprites).bootRom = s.bootRom := rfl
@[simp] theorem State.renderSprites_cart : (s.renderSprites).cart = s.cart := rfl
@[simp] theorem State.renderSprites_ctrl : (s.renderSprites).ctrl = s.ctrl := rfl
@[simp] theorem State.renderSprites_sink : (s.renderSprites).sink = s.sink := rfl

/-! ### What the register updates set -/

@[simp] theorem State.setPc_regs (v : Word) : (s.setPc v).regs = { s.regs with pc := v } := rfl
@[simp] theorem State.setSp_regs (v : Word) : (s.setSp v).regs = { s.regs with sp := v } := rfl
@[simp] theorem State.popSp_regs : s.popSp.regs = { s.regs with sp := s.regs.sp + 2 } := rfl
theorem State.setReg8_regs (n : Reg8) (v : Byte) : (s.setReg8 n v).regs = s.regs.set8 n v := rfl
theorem State.setReg16_regs (p : Pair) (v : Word) : (s.setReg16 p v).regs = s.regs.set16 p v := rfl
theorem State.setFlags_regs (z n h c : Bool) :
    (s.setFlags z n h c).regs = { s.regs with f := packFlags z n h c &&& 0xF0 } := rfl

@[simp] theorem Regs.get8_set8 (r : Regs) (n m : Reg8) (v : Byte) :
    (r.set8 n v).get8 m = if n = m then v else r.get8 m := by
  cases n <;> cases m <;> rfl

@[simp] theorem Regs.set8_f (r : Regs) (n : Reg8) (v : Byte) : (r.set8 n v).f = r.f := by cases n <;> rfl
@[simp] theorem Regs.set8_sp (r : Regs) (n : Reg8) (v : Byte) : (r.set8 n v).sp = r.sp := by cases n <;> rfl
@[simp] theorem Regs.set8_pc (r : Regs) (n : Reg8) (v : Byte) : (r.set8 n v).pc = r.pc := by cases n <;> rfl
@[simp] theorem Regs.set16_f (r : Regs) (p : Pair) (v : Word) : (r.set16 p v).f = r.f := by cases p <;> rfl
@[simp] theorem Regs.set16_pc (r : Regs) (p : Pair) (v : Word) : (r.set16 p v).pc = r.pc := by cases p <;> rfl
@[simp] theorem Regs.set16_a (r : Regs) (p : Pair) (v : Word) : (r.set16 p v).a = r.a := by cases p <;> rfl

/-- A pair holds the value written to it (10_state.md R31, R32). -/
@[simp] theorem Regs.get16_set16 (r : Regs) (p : Pair) (v : Word) : (r.set16 p v).get16 p = v := by
  cases p <;> simp [Regs.get16, Regs.set16]

/-- Writing a pair with its own value changes nothing. -/
@[simp] theorem Regs.set16_get16 (r : Regs) (p : Pair) : r.set16 p (r.get16 p) = r := by
  cases p <;> simp [Regs.get16, Regs.set16]

/-! ### What the other updates set -/

@[simp] theorem State.setCell_mem (a : Nat) (v : Byte) : (s.setCell a v).mem = s.mem.write a v := rfl
@[simp] theorem State.request_ifr (k : IntKind) : (s.request k).ifr = s.ifr ||| bitMask k.number := rfl
@[simp] theorem State.takeBranch_branchTaken : s.takeBranch.branchTaken = true := rfl
@[simp] theorem State.paint_sink : s.paint.sink = { paints := s.sink.paints + 1, lastFrame := some s.lcd.fb } := rfl

/-! ### The display registers after setMode -/

@[simp] theorem State.setMode_lcd_lcdc (m : Mode) : (s.setMode m).lcd.lcdc = s.lcd.lcdc := rfl
@[simp] theorem State.setMode_lcd_scy (m : Mode) : (s.setMode m).lcd.scy = s.lcd.scy := rfl
@[simp] theorem State.setMode_lcd_scx (m : Mode) : (s.setMode m).lcd.scx = s.lcd.scx := rfl
@[simp] theorem State.setMode_lcd_ly (m : Mode) : (s.setMode m).lcd.ly = s.lcd.ly := rfl
@[simp] theorem State.setMode_lcd_lyc (m : Mode) : (s.setMode m).lcd.lyc = s.lcd.lyc := rfl
@[simp] theorem State.setMode_lcd_bgp (m : Mode) : (s.setMode m).lcd.bgp = s.lcd.bgp := rfl
@[simp] theorem State.setMode_lcd_obp0 (m : Mode) : (s.setMode m).lcd.obp0 = s.lcd.obp0 := rfl
@[simp] theorem State.setMode_lcd_obp1 (m : Mode) : (s.setMode m).lcd.obp1 = s.lcd.obp1 := rfl
@[simp] theorem State.setMode_lcd_wy (m : Mode) : (s.setMode m).lcd.wy = s.lcd.wy := rfl
@[simp] theorem State.setMode_lcd_wx (m : Mode) : (s.setMode m).lcd.wx = s.lcd.wx := rfl
@[simp] theorem State.setMode_lcd_mode (m : Mode) : (s.setMode m).lcd.mode = m := rfl
@[simp] theorem State.setMode_lcd_acc (m : Mode) : (s.setMode m).lcd.acc = s.lcd.acc := rfl
@[simp] theorem State.setMode_lcd_fb (m : Mode) : (s.setMode m).lcd.fb = s.lcd.fb := rfl
@[simp] theorem State.setMode_lcd_bgi (m : Mode) : (s.setMode m).lcd.bgi = s.lcd.bgi := rfl

/-! ### The display registers after setLy -/

@[simp] theorem State.setLy_lcd_lcdc (v : Byte) : (s.setLy v).lcd.lcdc = s.lcd.lcdc := rfl
@[simp] theorem State.setLy_lcd_stat (v : Byte) : (s.setLy v).lcd.stat = s.lcd.stat := rfl
@[simp] theorem State.setLy_lcd_scy (v : Byte) : (s.setLy v).lcd.scy = s.lcd.scy := rfl
@[simp] theorem State.setLy_lcd_scx (v : Byte) : (s.setLy v).lcd.scx = s.lcd.scx := rfl
@[simp] theorem State.setLy_lcd_ly (v : Byte) : (s.setLy v).lcd.ly = v := rfl
@[simp] theorem State.setLy_lcd_lyc (v : Byte) : (s.setLy v).lcd.lyc = s.lcd.lyc := rfl
@[simp] theorem State.setLy_lcd_bgp (v : Byte) : (s.setLy v).lcd.bgp = s.lcd.bgp := rfl
@[simp] theorem State.setLy_lcd_obp0 (v : Byte) : (s.setLy v).lcd.obp0 = s.lcd.obp0 := rfl
@[simp] theorem State.setLy_lcd_obp1 (v : Byte) : (s.setLy v).lcd.obp1 = s.lcd.obp1 := rfl
@[simp] theorem State.setLy_lcd_wy (v : Byte) : (s.setLy v).lcd.wy = s.lcd.wy := rfl
@[simp] theorem State.setLy_lcd_wx (v : Byte) : (s.setLy v).lcd.wx = s.lcd.wx := rfl
@[simp] theorem State.setLy_lcd_mode (v : Byte) : (s.setLy v).lcd.mode = s.lcd.mode := rfl
@[simp] theorem State.setLy_lcd_acc (v : Byte) : (s.setLy v).lcd.acc = s.lcd.acc := rfl
@[simp] theorem State.setLy_lcd_fb (v : Byte) : (s.setLy v).lcd.fb = s.lcd.fb := rfl
@[simp] theorem State.setLy_lcd_bgi (v : Byte) : (s.setLy v).lcd.bgi = s.lcd.bgi := rfl

/-! ### The display registers after setCoincidence -/

@[simp] theorem State.setCoincidence_lcd_lcdc (b : Bool) : (s.setCoincidence b).lcd.lcdc = s.lcd.lcdc := rfl
@[simp] theorem State.setCoincidence_lcd_scy (b : Bool) : (s.setCoincidence b).lcd.scy = s.lcd.scy := rfl
@[simp] theorem State.setCoincidence_lcd_scx (b : Bool) : (s.setCoincidence b).lcd.scx = s.lcd.scx := rfl
@[simp] theorem State.setCoincidence_lcd_ly (b : Bool) : (s.setCoincidence b).lcd.ly = s.lcd.ly := rfl
@[simp] theorem State.setCoincidence_lcd_lyc (b : Bool) : (s.setCoincidence b).lcd.lyc = s.lcd.lyc := rfl
@[simp] theorem State.setCoincidence_lcd_bgp (b : Bool) : (s.setCoincidence b).lcd.bgp = s.lcd.bgp := rfl
@[simp] theorem State.setCoincidence_lcd_obp0 (b : Bool) : (s.setCoincidence b).lcd.obp0 = s.lcd.obp0 := rfl
@[simp] theorem State.setCoincidence_lcd_obp1 (b : Bool) : (s.setCoincidence b).lcd.obp1 = s.lcd.obp1 := rfl
@[simp] theorem State.setCoincidence_lcd_wy (b : Bool) : (s.setCoincidence b).lcd.wy = s.lcd.wy := rfl
@[simp] theorem State.setCoincidence_lcd_wx (b : Bool) : (s.setCoincidence b).lcd.wx = s.lcd.wx := rfl
@[simp] theorem State.setCoincidence_lcd_mode (b : Bool) : (s.setCoincidence b).lcd.mode = s.lcd.mode := rfl
@[simp] theorem State.setCoincidence_lcd_acc (b : Bool) : (s.setCoincidence b).lcd.acc = s.lcd.acc := rfl
@[simp] theorem State.setCoincidence_lcd_fb (b : Bool) : (s.setCoincidence b).lcd.fb = s.lcd.fb := rfl
@[simp] theorem State.setCoincidence_lcd_bgi (b : Bool) : (s.setCoincidence b).lcd.bgi = s.lcd.bgi := rfl

/-! ### The display registers after setAcc -/

@[simp] theorem State.setAcc_lcd_lcdc (n : Nat) : (s.setAcc n).lcd.lcdc = s.lcd.lcdc := rfl
@[simp] theorem State.setAcc_lcd_stat (n : Nat) : (s.setAcc n).lcd.stat = s.lcd.stat := rfl
@[simp] theorem State.setAcc_lcd_scy (n : Nat) : (s.setAcc n).lcd.scy = s.lcd.scy := rfl
@[simp] theorem State.setAcc_lcd_scx (n : Nat) : (s.setAcc n).lcd.scx = s.lcd.scx := rfl
@[simp] theorem State.setAcc_lcd_ly (n : Nat) : (s.setAcc n).lcd.ly = s.lcd.ly := rfl
@[simp] theorem State.setAcc_lcd_lyc (n : Nat) : (s.setAcc n).lcd.lyc = s.lcd.lyc := rfl
@[simp] theorem State.setAcc_lcd_bgp (n : Nat) : (s.setAcc n).lcd.bgp = s.lcd.bgp := rfl
@[simp] theorem State.setAcc_lcd_obp0 (n : Nat) : (s.setAcc n).lcd.obp0 = s.lcd.obp0 := rfl
@[simp] theorem State.setAcc_lcd_obp1 (n : Nat) : (s.setAcc n).lcd.obp1 = s.lcd.obp1 := rfl
@[simp] theorem State.setAcc_lcd_wy (n : Nat) : (s.setAcc n).lcd.wy = s.lcd.wy := rfl
@[simp] theorem State.setAcc_lcd_wx (n : Nat) : (s.setAcc n).lcd.wx = s.lcd.wx := rfl
@[simp] theorem State.setAcc_lcd_mode (n : Nat) : (s.setAcc n).lcd.mode = s.lcd.mode := rfl
@[simp] theorem State.setAcc_lcd_acc (n : Nat) : (s.setAcc n).lcd.acc = n := rfl
@[simp] theorem State.setAcc_lcd_fb (n : Nat) : (s.setAcc n).lcd.fb = s.lcd.fb := rfl
@[simp] theorem State.setAcc_lcd_bgi (n : Nat) : (s.setAcc n).lcd.bgi = s.lcd.bgi := rfl

/-! ### The display registers after renderBgLine -/

@[simp] theorem State.renderBgLine_lcd_lcdc (line : Nat) : (s.renderBgLine line).lcd.lcdc = s.lcd.lcdc := rfl
@[simp] theorem State.renderBgLine_lcd_stat (line : Nat) : (s.renderBgLine line).lcd.stat = s.lcd.stat := rfl
@[simp] theorem State.renderBgLine_lcd_scy (line : Nat) : (s.renderBgLine line).lcd.scy = s.lcd.scy := rfl
@[simp] theorem State.renderBgLine_lcd_scx (line : Nat) : (s.renderBgLine line).lcd.scx = s.lcd.scx := rfl
@[simp] theorem State.renderBgLine_lcd_ly (line : Nat) : (s.renderBgLine line).lcd.ly = s.lcd.ly := rfl
@[simp] theorem State.renderBgLine_lcd_lyc (line : Nat) : (s.renderBgLine line).lcd.lyc = s.lcd.lyc := rfl
@[simp] theorem State.renderBgLine_lcd_bgp (line : Nat) : (s.renderBgLine line).lcd.bgp = s.lcd.bgp := rfl
@[simp] theorem State.renderBgLine_lcd_obp0 (line : Nat) : (s.renderBgLine line).lcd.obp0 = s.lcd.obp0 := rfl
@[simp] theorem State.renderBgLine_lcd_obp1 (line : Nat) : (s.renderBgLine line).lcd.obp1 = s.lcd.obp1 := rfl
@[simp] theorem State.renderBgLine_lcd_wy (line : Nat) : (s.renderBgLine line).lcd.wy = s.lcd.wy := rfl
@[simp] theorem State.renderBgLine_lcd_wx (line : Nat) : (s.renderBgLine line).lcd.wx = s.lcd.wx := rfl
@[simp] theorem State.renderBgLine_lcd_mode (line : Nat) : (s.renderBgLine line).lcd.mode = s.lcd.mode := rfl
@[simp] theorem State.renderBgLine_lcd_acc (line : Nat) : (s.renderBgLine line).lcd.acc = s.lcd.acc := rfl

/-! ### The display registers after renderSprites -/

@[simp] theorem State.renderSprites_lcd_lcdc : (s.renderSprites).lcd.lcdc = s.lcd.lcdc := rfl
@[simp] theorem State.renderSprites_lcd_stat : (s.renderSprites).lcd.stat = s.lcd.stat := rfl
@[simp] theorem State.renderSprites_lcd_scy : (s.renderSprites).lcd.scy = s.lcd.scy := rfl
@[simp] theorem State.renderSprites_lcd_scx : (s.renderSprites).lcd.scx = s.lcd.scx := rfl
@[simp] theorem State.renderSprites_lcd_ly : (s.renderSprites).lcd.ly = s.lcd.ly := rfl
@[simp] theorem State.renderSprites_lcd_lyc : (s.renderSprites).lcd.lyc = s.lcd.lyc := rfl
@[simp] theorem State.renderSprites_lcd_bgp : (s.renderSprites).lcd.bgp = s.lcd.bgp := rfl
@[simp] theorem State.renderSprites_lcd_obp0 : (s.renderSprites).lcd.obp0 = s.lcd.obp0 := rfl
@[simp] theorem State.renderSprites_lcd_obp1 : (s.renderSprites).lcd.obp1 = s.lcd.obp1 := rfl
@[simp] theorem State.renderSprites_lcd_wy : (s.renderSprites).lcd.wy = s.lcd.wy := rfl
@[simp] theorem State.renderSprites_lcd_wx : (s.renderSprites).lcd.wx = s.lcd.wx := rfl
@[simp] theorem State.renderSprites_lcd_mode : (s.renderSprites).lcd.mode = s.lcd.mode := rfl
@[simp] theorem State.renderSprites_lcd_acc : (s.renderSprites).lcd.acc = s.lcd.acc := rfl
@[simp] theorem State.renderSprites_lcd_bgi : (s.renderSprites).lcd.bgi = s.lcd.bgi := rfl

@[simp] theorem State.setMode_lcd_stat (m : Mode) : (s.setMode m).lcd.stat = (s.lcd.stat &&& 0xFC) ||| m.code := rfl
@[simp] theorem State.setCoincidence_lcd_stat (b : Bool) :
    (s.setCoincidence b).lcd.stat = (s.lcd.stat &&& 0xFB) ||| (if b then 0x04 else 0x00) := rfl

end Sys2Proof.Machine
end

