-- ==== Sys2Proof/Laws/Ops.lean ====
section
/-! SUPPORT. The stack operations in one equation each, and what no instruction changes. -/

namespace Sys2Proof.Machine

/-! ### The stack (40_load.md R160, R161) -/

/-- A push, with the stack pointer written first: the two stores do not depend on it. -/
theorem State.push16_eq (s : State) (v : Word) :
    s.push16 v = ((s.setSp (s.regs.sp - 2)).busWrite (s.regs.sp - 1) (hi v)).busWrite (s.regs.sp - 2) (lo v) := by
  have two : s.regs.sp - 1 - 1 = s.regs.sp - 2 := by
    rw [BitVec.sub_sub]
    rfl
  unfold State.push16
  simp only [State.setSp_regs, State.busWrite_regs, two]
  simp only [State.setSp, State.busWrite_withRegs]

theorem State.push16_regs (s : State) (v : Word) : (s.push16 v).regs = { s.regs with sp := s.regs.sp - 2 } := by
  rw [State.push16_eq]
  simp

/-- A push leaves IME, halted, branch_taken, the fault mark, BOOT_ROM and the sink. -/
theorem State.push16_keeps (s : State) (v : Word) :
    (s.push16 v).ime = s.ime ∧ (s.push16 v).halted = s.halted ∧ (s.push16 v).branchTaken = s.branchTaken ∧
    (s.push16 v).fault = s.fault ∧ (s.push16 v).bootRom = s.bootRom ∧ (s.push16 v).sink = s.sink := by
  rw [State.push16_eq]
  simp

/-! ### What no instruction changes -/

/-- What holds between a state and the state an instruction or an interrupt entry makes of it. -/
structure Keeps (s t : State) : Prop where
  ly : t.lcd.ly = s.lcd.ly
  mode : t.lcd.mode = s.lcd.mode
  acc : t.lcd.acc = s.lcd.acc
  fb : t.lcd.fb = s.lcd.fb
  bgi : t.lcd.bgi = s.lcd.bgi
  stat : t.lcd.stat &&& 0x07 = s.lcd.stat &&& 0x07
  sink : t.sink = s.sink
  bootRom : t.bootRom = s.bootRom
  ticks : t.ctrl.ticks = s.ctrl.ticks
  draws : t.ctrl.draws = s.ctrl.draws
  source : t.ctrl.source = s.ctrl.source
  cart : s.cart.Evolves t.cart
  wf : s.mem.wf = true → t.mem.wf = true
  flagsLow : s.regs.f &&& 0x0F = 0 → t.regs.f &&& 0x0F = 0

theorem Keeps.trans {s t u : State} (h : Keeps s t) (h' : Keeps t u) : Keeps s u where
  ly := h'.ly.trans h.ly
  mode := h'.mode.trans h.mode
  acc := h'.acc.trans h.acc
  fb := h'.fb.trans h.fb
  bgi := h'.bgi.trans h.bgi
  stat := h'.stat.trans h.stat
  sink := h'.sink.trans h.sink
  bootRom := h'.bootRom.trans h.bootRom
  ticks := h'.ticks.trans h.ticks
  draws := h'.draws.trans h.draws
  source := h'.source.trans h.source
  cart := h.cart.trans h'.cart
  wf := fun w => h'.wf (h.wf w)
  flagsLow := fun w => h'.flagsLow (h.flagsLow w)

/-- Writes of the registers, IME, halted, branch_taken and the fault mark. -/
theorem Keeps.front (s : State) (r : Regs) (i h b : Bool) (f : Option FaultInfo)
    (low : s.regs.f &&& 0x0F = 0 → r.f &&& 0x0F = 0) :
    Keeps s { s with regs := r, ime := i, halted := h, branchTaken := b, fault := f } :=
  ⟨rfl, rfl, rfl, rfl, rfl, rfl, rfl, rfl, rfl, rfl, rfl, Cartridge.Evolves.refl _, id, low⟩

theorem Keeps.busWrite (s : State) (a : Word) (v : Byte) : Keeps s (s.busWrite a v) where
  ly := (s.busWrite_display a v).1
  mode := (s.busWrite_display a v).2.1
  acc := (s.busWrite_display a v).2.2.1
  fb := (s.busWrite_display a v).2.2.2.1
  bgi := (s.busWrite_display a v).2.2.2.2.1
  stat := (s.busWrite_display a v).2.2.2.2.2
  sink := s.busWrite_sink a v
  bootRom := s.busWrite_bootRom a v
  ticks := (s.busWrite_ctrl a v).1
  draws := (s.busWrite_ctrl a v).2.1
  source := (s.busWrite_ctrl a v).2.2
  cart := s.busWrite_cart a v
  wf := fun h => State.busWrite_wf h a v
  flagsLow := fun h => by rw [s.busWrite_regs a v]; exact h

theorem Keeps.setReg8 (s : State) (n : Reg8) (v : Byte) : Keeps s (s.setReg8 n v) :=
  Keeps.front s _ _ _ _ _ (by cases n <;> exact id)

theorem Keeps.setReg16 (s : State) (p : Pair) (v : Word) : Keeps s (s.setReg16 p v) :=
  Keeps.front s _ _ _ _ _ (by cases p <;> exact id)

theorem Keeps.setPc (s : State) (v : Word) : Keeps s (s.setPc v) := Keeps.front s _ _ _ _ _ id

theorem Keeps.setSp (s : State) (v : Word) : Keeps s (s.setSp v) := Keeps.front s _ _ _ _ _ id

theorem Keeps.setFlags (s : State) (z n h c : Bool) : Keeps s (s.setFlags z n h c) :=
  Keeps.front s _ _ _ _ _ fun _ => mask_low _

theorem Keeps.setAccumulator (s : State) (o : AluOut) : Keeps s (s.setAccumulator o) :=
  (Keeps.setReg8 s _ _).trans (Keeps.setFlags _ _ _ _ _)

theorem Keeps.writeOperand (s : State) (o : Operand8) (v : Byte) : Keeps s (s.writeOperand o v) := by
  cases o with
  | reg n => exact Keeps.setReg8 s n v
  | atHL => exact Keeps.busWrite s _ v

theorem Keeps.writeBack (s : State) (o : Operand8) (r : AluOut) : Keeps s (s.writeBack o r) :=
  (Keeps.writeOperand s _ _).trans (Keeps.setFlags _ _ _ _ _)

theorem Keeps.push16 (s : State) (v : Word) : Keeps s (s.push16 v) := by
  rw [State.push16_eq]
  exact ((Keeps.setSp s _).trans (Keeps.busWrite _ _ _)).trans (Keeps.busWrite _ _ _)

theorem Keeps.popPair (s : State) (p : StackPair) : Keeps s (popPair p s) :=
  Keeps.front s _ _ _ _ _ (by cases p <;> first | exact id | exact fun _ => mask_low _)

theorem Keeps.service (s : State) (k : IntKind) : Keeps s (s.service k) := by
  refine Keeps.trans (t := { s with ime := false, ifr := s.ifr &&& ~~~(bitMask k.number) }) ?_
    ((Keeps.push16 _ _).trans (Keeps.setPc _ _))
  exact ⟨rfl, rfl, rfl, rfl, rfl, rfl, rfl, rfl, rfl, rfl, rfl, Cartridge.Evolves.refl _, id, id⟩

/-- Every instruction keeps all of that. -/
theorem Effect.keeps {i : Instr} {s t : State} (h : Effect i s t) : Keeps s t := by
  have same : ∀ s : State, Keeps s s := fun s => Keeps.front s _ _ _ _ _ id
  have branch : ∀ s : State, Keeps s s.takeBranch := fun s => Keeps.front s _ _ _ _ _ id
  have call : ∀ (s : State) (a : Word), Keeps s (Machine.call a s) := fun s a => (Keeps.push16 s _).trans (Keeps.setPc _ _)
  have ret : ∀ s : State, Keeps s (Machine.ret s) := fun s => Keeps.front s _ _ _ _ _ id
  cases h
  case ldRegReg | ldRegImm | ldRegAtHL | ldAAtBC | ldAAtDE | ldAAtA16 | ldhAAtA8 | ldAAtC => exact Keeps.setReg8 _ _ _
  case ldAtHLReg | ldAtHLImm | ldAtBCA | ldAtDEA | ldAtA16A | ldhAtA8A | ldAtCA => exact Keeps.busWrite _ _ _
  case ldAtHLIncA | ldAtHLDecA => exact (Keeps.busWrite _ _ _).trans (Keeps.setReg16 _ _ _)
  case ldAAtHLInc | ldAAtHLDec => exact (Keeps.setReg8 _ _ _).trans (Keeps.setReg16 _ _ _)
  case ldPairImm | incPair | decPair => exact Keeps.setReg16 _ _ _
  case ldHLSpE8 | addHL => exact (Keeps.setReg16 _ _ _).trans (Keeps.setFlags _ _ _ _ _)
  case addSp => exact (Keeps.setSp _ _).trans (Keeps.setFlags _ _ _ _ _)
  case ldSpHL => exact Keeps.setSp _ _
  case ldAtAddrSp => exact (Keeps.busWrite _ _ _).trans (Keeps.busWrite _ _ _)
  case pushPair => exact Keeps.push16 _ _
  case popPair => exact Keeps.popPair _ _
  case alu op o => cases op <;> first | exact Keeps.setAccumulator _ _ | exact Keeps.setFlags _ _ _ _ _
  case aluImm op v => cases op <;> first | exact Keeps.setAccumulator _ _ | exact Keeps.setFlags _ _ _ _ _
  case incOperand | decOperand => exact Keeps.writeBack _ _ _
  case daaA | rlcA | rrcA | rlA | rrA => exact Keeps.setAccumulator _ _
  case cplA => exact (Keeps.setReg8 _ _ _).trans (Keeps.setFlags _ _ _ _ _)
  case scfC | ccfC | bitOperand => exact Keeps.setFlags _ _ _ _ _
  case rotate op o => cases op <;> exact Keeps.writeBack _ _ _
  case resOperand | setOperand => exact Keeps.writeOperand _ _ _
  case jump | jumpHL | jumpRelative => exact Keeps.setPc _ _
  case jumpIf | jumpRelativeIf =>
    first | unfold Machine.jumpIf | unfold Machine.jumpRelativeIf
    split
    · exact (branch s).trans (Keeps.setPc _ _)
    · exact same s
  case call => exact call _ _
  case callIf =>
    unfold Machine.callIf
    split
    · exact (branch s).trans (call _ _)
    · exact same s
  case ret => exact ret s
  case retIf =>
    unfold Machine.retIf
    split
    · exact (branch s).trans (ret _)
    · exact same s
  case restart => exact (Keeps.push16 s _).trans (Keeps.setPc _ _)
  case reti | nopStep | halt | stop | disableInterrupts | enableInterrupts | illegal =>
    exact Keeps.front s _ _ _ _ _ id

/-- What no instruction changes, for a state that `exec` is known to answer. -/
theorem exec_keeps {i : Instr} {s t : State} (h : exec i s = .next t) : Keeps s t := (effect_of_exec h).keeps

end Sys2Proof.Machine
end

