-- ==== Sys2Proof/Laws/Display.lean ====
section
/-! SUPPORT. The display step: its loop does not depend on its fuel, and everything it can change. -/

namespace Sys2Proof.Machine

theorem Mode.budget_pos (m : Mode) : 80 ≤ m.budget := by cases m <;> decide

/-! ### The loop of R343 -/

@[simp] theorem State.endOfPhase_acc (s : State) : s.endOfPhase.lcd.acc = s.lcd.acc := by
  unfold State.endOfPhase
  split
  · rfl
  · unfold State.endOfVram; dsimp only; split <;> split <;> rfl
  · unfold State.endOfHblank; dsimp only; split <;> rfl
  · unfold State.endOfVblank; dsimp only; split <;> rfl

/-- One pass of the loop: the phase's budget is taken off, and the phase ends. -/
def State.passPhase (s : State) : State := (s.setAcc (s.lcd.acc - s.lcd.mode.budget)).endOfPhase

theorem State.passPhase_acc (s : State) : s.passPhase.lcd.acc = s.lcd.acc - s.lcd.mode.budget := by
  unfold State.passPhase
  rw [State.endOfPhase_acc]
  rfl

theorem dispLoop_done (fuel : Nat) {s : State} (h : s.lcd.acc < s.lcd.mode.budget) : dispLoop fuel s = s := by
  cases fuel with
  | zero => rfl
  | succ fuel => exact if_neg (Nat.not_le.2 h)

theorem dispLoop_pass (fuel : Nat) {s : State} (h : s.lcd.mode.budget ≤ s.lcd.acc) :
    dispLoop (fuel + 1) s = dispLoop fuel s.passPhase := if_pos h

/-- Fuel of at least the accumulator is enough, and more changes nothing. -/
theorem dispLoop_fuel {f g : Nat} {s : State} (hf : s.lcd.acc ≤ f) (hg : s.lcd.acc ≤ g) :
    dispLoop f s = dispLoop g s := by
  have pos := s.lcd.mode.budget_pos
  induction f generalizing g s with
  | zero => rw [dispLoop_done 0 (by omega), dispLoop_done g (by omega)]
  | succ f ih =>
    by_cases h : s.lcd.mode.budget ≤ s.lcd.acc
    · cases g with
      | zero => omega
      | succ g =>
        rw [dispLoop_pass f h, dispLoop_pass g h]
        refine ih ?_ ?_ (Mode.budget_pos _) <;> rw [State.passPhase_acc] <;> omega
    · rw [dispLoop_done _ (by omega), dispLoop_done _ (by omega)]

/-- Within the budget no phase ends. -/
theorem State.dispTick_within {s : State} {n : Nat} (h : s.lcd.acc + n < s.lcd.mode.budget) :
    s.dispTick n = s.setAcc (s.lcd.acc + n) := dispLoop_done _ h

/-- Past the budget one phase ends and the loop goes on. -/
theorem State.dispTick_past {s : State} {n : Nat} (h : s.lcd.mode.budget ≤ s.lcd.acc + n) :
    s.dispTick n = (s.setAcc (s.lcd.acc + n)).passPhase.dispTick 0 := by
  have pos := s.lcd.mode.budget_pos
  have acc : (s.setAcc (s.lcd.acc + n)).passPhase.lcd.acc = s.lcd.acc + n - s.lcd.mode.budget := State.passPhase_acc _
  unfold State.dispTick
  show dispLoop (s.lcd.acc + n) _ = _
  obtain ⟨k, hk⟩ : ∃ k, s.lcd.acc + n = k + 1 := ⟨s.lcd.acc + n - 1, by omega⟩
  rw [hk] at acc h ⊢
  rw [dispLoop_pass k h]
  exact dispLoop_fuel (by omega) (by show _ ≤ _ + 0; omega)

/-! ### What a display step can change (20_memory.md R95) -/

/-- Everything but the display state, the video sink and IF[1:0] is as before, and no IF bit is cleared. -/
structure DisplayOnly (s t : State) : Prop where
  rest : t = { s with ifr := t.ifr, lcd := t.lcd, sink := t.sink }
  ifrHigh : ∀ n, 2 ≤ n → t.ifr.getLsbD n = s.ifr.getLsbD n
  ifrKept : ∀ n, s.ifr.getLsbD n = true → t.ifr.getLsbD n = true
  statHigh : ∀ n, 3 ≤ n → t.lcd.stat.getLsbD n = s.lcd.stat.getLsbD n
  registers :
    t.lcd =
      { s.lcd with
        stat := t.lcd.stat, ly := t.lcd.ly, mode := t.lcd.mode, acc := t.lcd.acc, fb := t.lcd.fb, bgi := t.lcd.bgi }

theorem DisplayOnly.refl (s : State) : DisplayOnly s s := ⟨rfl, fun _ _ => rfl, fun _ h => h, fun _ _ => rfl, rfl⟩

theorem DisplayOnly.trans {s t u : State} (h : DisplayOnly s t) (h' : DisplayOnly t u) : DisplayOnly s u where
  rest := by rw [h'.rest, h.rest]
  ifrHigh := fun n hn => (h'.ifrHigh n hn).trans (h.ifrHigh n hn)
  ifrKept := fun n hn => h'.ifrKept n (h.ifrKept n hn)
  statHigh := fun n hn => (h'.statHigh n hn).trans (h.statHigh n hn)
  registers := by rw [h'.registers, h.registers]

theorem DisplayOnly.setAcc (s : State) (n : Nat) : DisplayOnly s (s.setAcc n) :=
  ⟨rfl, fun _ _ => rfl, fun _ h => h, fun _ _ => rfl, rfl⟩

theorem DisplayOnly.setLy (s : State) (v : Byte) : DisplayOnly s (s.setLy v) :=
  ⟨rfl, fun _ _ => rfl, fun _ h => h, fun _ _ => rfl, rfl⟩

theorem DisplayOnly.paint (s : State) : DisplayOnly s s.paint := ⟨rfl, fun _ _ => rfl, fun _ h => h, fun _ _ => rfl, rfl⟩

theorem DisplayOnly.renderBgLine (s : State) (line : Nat) : DisplayOnly s (s.renderBgLine line) :=
  ⟨rfl, fun _ _ => rfl, fun _ h => h, fun _ _ => rfl, rfl⟩

theorem DisplayOnly.renderSprites (s : State) : DisplayOnly s s.renderSprites :=
  ⟨rfl, fun _ _ => rfl, fun _ h => h, fun _ _ => rfl, rfl⟩

/-- A byte's bits from `k` on, after a mask and an `or` below `k`. -/
theorem getLsbD_mask_or {v mask low : Byte} {n : Nat} (hm : ∀ i, i < 8 → n ≤ i → mask.getLsbD i = true)
    (hl : ∀ i, i < 8 → n ≤ i → low.getLsbD i = false) {i : Nat} (hi : n ≤ i) :
    ((v &&& mask) ||| low).getLsbD i = v.getLsbD i := by
  by_cases h : i < 8
  · simp [BitVec.getLsbD_or, BitVec.getLsbD_and, hm i h hi, hl i h hi]
  · simp [BitVec.getLsbD_of_ge, Nat.not_lt.1 h]

theorem DisplayOnly.setMode (s : State) (m : Mode) : DisplayOnly s (s.setMode m) where
  rest := rfl
  ifrHigh := fun _ _ => rfl
  ifrKept := fun _ h => h
  statHigh := fun n hn => by
    show ((s.lcd.stat &&& 0xFC) ||| m.code).getLsbD n = _
    refine getLsbD_mask_or (n := 2) ?_ ?_ (by omega)
    · decide
    · cases m <;> decide
  registers := rfl

theorem DisplayOnly.setCoincidence (s : State) (b : Bool) : DisplayOnly s (s.setCoincidence b) where
  rest := rfl
  ifrHigh := fun _ _ => rfl
  ifrKept := fun _ h => h
  statHigh := fun n hn => by
    show ((s.lcd.stat &&& 0xFB) ||| (if b then 0x04 else 0x00)).getLsbD n = _
    refine getLsbD_mask_or (n := 3) ?_ ?_ hn
    · decide
    · cases b <;> decide
  registers := rfl

theorem DisplayOnly.request (s : State) {k : IntKind} (h : k.number < 2) : DisplayOnly s (s.request k) where
  rest := rfl
  ifrHigh := fun n hn => by
    show (s.ifr ||| bitMask k.number).getLsbD n = _
    have : k.number ≠ n := by omega
    simp [bitMask, BitVec.getLsbD_or]
    omega
  ifrKept := fun n hn => by
    show (s.ifr ||| bitMask k.number).getLsbD n = true
    rw [BitVec.getLsbD_or, hn]
    rfl
  statHigh := fun _ _ => rfl
  registers := rfl

/-- The end of any phase. -/
theorem DisplayOnly.endOfPhase (s : State) : DisplayOnly s s.endOfPhase := by
  have stat : ∀ {t : State} (b : Bool), DisplayOnly s t → DisplayOnly s (if b then t.request .lcdStat else t) := by
    intro t b h
    cases b
    · exact h
    · exact h.trans (DisplayOnly.request t (by decide))
  unfold State.endOfPhase
  split
  · exact DisplayOnly.setMode s _
  · unfold State.endOfVram
    exact (stat _ ((stat _ (DisplayOnly.refl s)).trans (DisplayOnly.setCoincidence _ _))).trans
      (DisplayOnly.setMode _ _)
  · have line := (DisplayOnly.renderBgLine s s.lcd.ly.toNat).trans (DisplayOnly.setLy _ (s.lcd.ly + 1))
    unfold State.endOfHblank
    dsimp only
    split
    · exact line.trans (DisplayOnly.setMode _ _)
    · exact (line.trans (DisplayOnly.request _ (by decide))).trans (DisplayOnly.setMode _ _)
  · have line := DisplayOnly.setLy s (s.lcd.ly + 1)
    unfold State.endOfVblank
    dsimp only
    split
    · exact line.trans ((((DisplayOnly.renderSprites _).trans (DisplayOnly.paint _)).trans
        (DisplayOnly.setLy _ _)).trans (DisplayOnly.setMode _ _))
    · exact line.trans (DisplayOnly.setMode _ _)

theorem DisplayOnly.dispLoop (fuel : Nat) (s : State) : DisplayOnly s (dispLoop fuel s) := by
  induction fuel generalizing s with
  | zero => exact DisplayOnly.refl s
  | succ fuel ih =>
    unfold Machine.dispLoop
    split
    · exact ((DisplayOnly.setAcc s _).trans (DisplayOnly.endOfPhase _)).trans (ih _)
    · exact DisplayOnly.refl s

/-- Everything a display step can change. -/
theorem DisplayOnly.dispTick (s : State) (cycles : Nat) : DisplayOnly s (s.dispTick cycles) :=
  (DisplayOnly.setAcc s _).trans (DisplayOnly.dispLoop _ _)

end Sys2Proof.Machine
end

