-- ==== Sys2Proof/Laws/PerInstr.lean ====
section
/-! SUPPORT. Laws made per instruction (LAWS.json). `EncodedLength`: the encoder writes as many bytes as the opcode byte
alone fixes (30_encoding.md R110, R119). -/

namespace Sys2Proof.Laws

/-- The opcode byte's length in R119 is the number of bytes the encoder writes. -/
def EncodedLength.Statement (i : Instr) : Prop := lengthOf ((encode i).headD 0) = i.length

theorem EncodedLength.nop : EncodedLength.Statement (.nop) :=
  (rfl : lengthOf 0x00 = 1)
theorem EncodedLength.ld_BC_d16 (d16 : Word) : EncodedLength.Statement (.ld_BC_d16 d16) :=
  (rfl : lengthOf 0x01 = 3)
theorem EncodedLength.ld_atBC_A : EncodedLength.Statement (.ld_atBC_A) :=
  (rfl : lengthOf 0x02 = 1)
theorem EncodedLength.inc_BC : EncodedLength.Statement (.inc_BC) :=
  (rfl : lengthOf 0x03 = 1)
theorem EncodedLength.inc_B : EncodedLength.Statement (.inc_B) :=
  (rfl : lengthOf 0x04 = 1)
theorem EncodedLength.dec_B : EncodedLength.Statement (.dec_B) :=
  (rfl : lengthOf 0x05 = 1)
theorem EncodedLength.ld_B_d8 (d8 : Byte) : EncodedLength.Statement (.ld_B_d8 d8) :=
  (rfl : lengthOf 0x06 = 2)
theorem EncodedLength.rlca : EncodedLength.Statement (.rlca) :=
  (rfl : lengthOf 0x07 = 1)
theorem EncodedLength.ld_atA16_SP (a16 : Word) : EncodedLength.Statement (.ld_atA16_SP a16) :=
  (rfl : lengthOf 0x08 = 3)
theorem EncodedLength.add_HL_BC : EncodedLength.Statement (.add_HL_BC) :=
  (rfl : lengthOf 0x09 = 1)
theorem EncodedLength.ld_A_atBC : EncodedLength.Statement (.ld_A_atBC) :=
  (rfl : lengthOf 0x0A = 1)
theorem EncodedLength.dec_BC : EncodedLength.Statement (.dec_BC) :=
  (rfl : lengthOf 0x0B = 1)
theorem EncodedLength.inc_C : EncodedLength.Statement (.inc_C) :=
  (rfl : lengthOf 0x0C = 1)
theorem EncodedLength.dec_C : EncodedLength.Statement (.dec_C) :=
  (rfl : lengthOf 0x0D = 1)
theorem EncodedLength.ld_C_d8 (d8 : Byte) : EncodedLength.Statement (.ld_C_d8 d8) :=
  (rfl : lengthOf 0x0E = 2)
theorem EncodedLength.rrca : EncodedLength.Statement (.rrca) :=
  (rfl : lengthOf 0x0F = 1)
theorem EncodedLength.stop (ignored : Byte) : EncodedLength.Statement (.stop ignored) :=
  (rfl : lengthOf 0x10 = 2)
theorem EncodedLength.ld_DE_d16 (d16 : Word) : EncodedLength.Statement (.ld_DE_d16 d16) :=
  (rfl : lengthOf 0x11 = 3)
theorem EncodedLength.ld_atDE_A : EncodedLength.Statement (.ld_atDE_A) :=
  (rfl : lengthOf 0x12 = 1)
theorem EncodedLength.inc_DE : EncodedLength.Statement (.inc_DE) :=
  (rfl : lengthOf 0x13 = 1)
theorem EncodedLength.inc_D : EncodedLength.Statement (.inc_D) :=
  (rfl : lengthOf 0x14 = 1)
theorem EncodedLength.dec_D : EncodedLength.Statement (.dec_D) :=
  (rfl : lengthOf 0x15 = 1)
theorem EncodedLength.ld_D_d8 (d8 : Byte) : EncodedLength.Statement (.ld_D_d8 d8) :=
  (rfl : lengthOf 0x16 = 2)
theorem EncodedLength.rla : EncodedLength.Statement (.rla) :=
  (rfl : lengthOf 0x17 = 1)
theorem EncodedLength.jr_e8 (e8 : Byte) : EncodedLength.Statement (.jr_e8 e8) :=
  (rfl : lengthOf 0x18 = 2)
theorem EncodedLength.add_HL_DE : EncodedLength.Statement (.add_HL_DE) :=
  (rfl : lengthOf 0x19 = 1)
theorem EncodedLength.ld_A_atDE : EncodedLength.Statement (.ld_A_atDE) :=
  (rfl : lengthOf 0x1A = 1)
theorem EncodedLength.dec_DE : EncodedLength.Statement (.dec_DE) :=
  (rfl : lengthOf 0x1B = 1)
theorem EncodedLength.inc_E : EncodedLength.Statement (.inc_E) :=
  (rfl : lengthOf 0x1C = 1)
theorem EncodedLength.dec_E : EncodedLength.Statement (.dec_E) :=
  (rfl : lengthOf 0x1D = 1)
theorem EncodedLength.ld_E_d8 (d8 : Byte) : EncodedLength.Statement (.ld_E_d8 d8) :=
  (rfl : lengthOf 0x1E = 2)
theorem EncodedLength.rra : EncodedLength.Statement (.rra) :=
  (rfl : lengthOf 0x1F = 1)
theorem EncodedLength.jr_NZ_e8 (e8 : Byte) : EncodedLength.Statement (.jr_NZ_e8 e8) :=
  (rfl : lengthOf 0x20 = 2)
theorem EncodedLength.ld_HL_d16 (d16 : Word) : EncodedLength.Statement (.ld_HL_d16 d16) :=
  (rfl : lengthOf 0x21 = 3)
theorem EncodedLength.ld_atHLinc_A : EncodedLength.Statement (.ld_atHLinc_A) :=
  (rfl : lengthOf 0x22 = 1)
theorem EncodedLength.inc_HL : EncodedLength.Statement (.inc_HL) :=
  (rfl : lengthOf 0x23 = 1)
theorem EncodedLength.inc_H : EncodedLength.Statement (.inc_H) :=
  (rfl : lengthOf 0x24 = 1)
theorem EncodedLength.dec_H : EncodedLength.Statement (.dec_H) :=
  (rfl : lengthOf 0x25 = 1)
theorem EncodedLength.ld_H_d8 (d8 : Byte) : EncodedLength.Statement (.ld_H_d8 d8) :=
  (rfl : lengthOf 0x26 = 2)
theorem EncodedLength.daa : EncodedLength.Statement (.daa) :=
  (rfl : lengthOf 0x27 = 1)
theorem EncodedLength.jr_Z_e8 (e8 : Byte) : EncodedLength.Statement (.jr_Z_e8 e8) :=
  (rfl : lengthOf 0x28 = 2)
theorem EncodedLength.add_HL_HL : EncodedLength.Statement (.add_HL_HL) :=
  (rfl : lengthOf 0x29 = 1)
theorem EncodedLength.ld_A_atHLinc : EncodedLength.Statement (.ld_A_atHLinc) :=
  (rfl : lengthOf 0x2A = 1)
theorem EncodedLength.dec_HL : EncodedLength.Statement (.dec_HL) :=
  (rfl : lengthOf 0x2B = 1)
theorem EncodedLength.inc_L : EncodedLength.Statement (.inc_L) :=
  (rfl : lengthOf 0x2C = 1)
theorem EncodedLength.dec_L : EncodedLength.Statement (.dec_L) :=
  (rfl : lengthOf 0x2D = 1)
theorem EncodedLength.ld_L_d8 (d8 : Byte) : EncodedLength.Statement (.ld_L_d8 d8) :=
  (rfl : lengthOf 0x2E = 2)
theorem EncodedLength.cpl : EncodedLength.Statement (.cpl) :=
  (rfl : lengthOf 0x2F = 1)
theorem EncodedLength.jr_NC_e8 (e8 : Byte) : EncodedLength.Statement (.jr_NC_e8 e8) :=
  (rfl : lengthOf 0x30 = 2)
theorem EncodedLength.ld_SP_d16 (d16 : Word) : EncodedLength.Statement (.ld_SP_d16 d16) :=
  (rfl : lengthOf 0x31 = 3)
theorem EncodedLength.ld_atHLdec_A : EncodedLength.Statement (.ld_atHLdec_A) :=
  (rfl : lengthOf 0x32 = 1)
theorem EncodedLength.inc_SP : EncodedLength.Statement (.inc_SP) :=
  (rfl : lengthOf 0x33 = 1)
theorem EncodedLength.inc_atHL : EncodedLength.Statement (.inc_atHL) :=
  (rfl : lengthOf 0x34 = 1)
theorem EncodedLength.dec_atHL : EncodedLength.Statement (.dec_atHL) :=
  (rfl : lengthOf 0x35 = 1)
theorem EncodedLength.ld_atHL_d8 (d8 : Byte) : EncodedLength.Statement (.ld_atHL_d8 d8) :=
  (rfl : lengthOf 0x36 = 2)
theorem EncodedLength.scf : EncodedLength.Statement (.scf) :=
  (rfl : lengthOf 0x37 = 1)
theorem EncodedLength.jr_C_e8 (e8 : Byte) : EncodedLength.Statement (.jr_C_e8 e8) :=
  (rfl : lengthOf 0x38 = 2)
theorem EncodedLength.add_HL_SP : EncodedLength.Statement (.add_HL_SP) :=
  (rfl : lengthOf 0x39 = 1)
theorem EncodedLength.ld_A_atHLdec : EncodedLength.Statement (.ld_A_atHLdec) :=
  (rfl : lengthOf 0x3A = 1)
theorem EncodedLength.dec_SP : EncodedLength.Statement (.dec_SP) :=
  (rfl : lengthOf 0x3B = 1)
theorem EncodedLength.inc_A : EncodedLength.Statement (.inc_A) :=
  (rfl : lengthOf 0x3C = 1)
theorem EncodedLength.dec_A : EncodedLength.Statement (.dec_A) :=
  (rfl : lengthOf 0x3D = 1)
theorem EncodedLength.ld_A_d8 (d8 : Byte) : EncodedLength.Statement (.ld_A_d8 d8) :=
  (rfl : lengthOf 0x3E = 2)
theorem EncodedLength.ccf : EncodedLength.Statement (.ccf) :=
  (rfl : lengthOf 0x3F = 1)
theorem EncodedLength.ld_B_B : EncodedLength.Statement (.ld_B_B) :=
  (rfl : lengthOf 0x40 = 1)
theorem EncodedLength.ld_B_C : EncodedLength.Statement (.ld_B_C) :=
  (rfl : lengthOf 0x41 = 1)
theorem EncodedLength.ld_B_D : EncodedLength.Statement (.ld_B_D) :=
  (rfl : lengthOf 0x42 = 1)
theorem EncodedLength.ld_B_E : EncodedLength.Statement (.ld_B_E) :=
  (rfl : lengthOf 0x43 = 1)
theorem EncodedLength.ld_B_H : EncodedLength.Statement (.ld_B_H) :=
  (rfl : lengthOf 0x44 = 1)
theorem EncodedLength.ld_B_L : EncodedLength.Statement (.ld_B_L) :=
  (rfl : lengthOf 0x45 = 1)
theorem EncodedLength.ld_B_atHL : EncodedLength.Statement (.ld_B_atHL) :=
  (rfl : lengthOf 0x46 = 1)
theorem EncodedLength.ld_B_A : EncodedLength.Statement (.ld_B_A) :=
  (rfl : lengthOf 0x47 = 1)
theorem EncodedLength.ld_C_B : EncodedLength.Statement (.ld_C_B) :=
  (rfl : lengthOf 0x48 = 1)
theorem EncodedLength.ld_C_C : EncodedLength.Statement (.ld_C_C) :=
  (rfl : lengthOf 0x49 = 1)
theorem EncodedLength.ld_C_D : EncodedLength.Statement (.ld_C_D) :=
  (rfl : lengthOf 0x4A = 1)
theorem EncodedLength.ld_C_E : EncodedLength.Statement (.ld_C_E) :=
  (rfl : lengthOf 0x4B = 1)
theorem EncodedLength.ld_C_H : EncodedLength.Statement (.ld_C_H) :=
  (rfl : lengthOf 0x4C = 1)
theorem EncodedLength.ld_C_L : EncodedLength.Statement (.ld_C_L) :=
  (rfl : lengthOf 0x4D = 1)
theorem EncodedLength.ld_C_atHL : EncodedLength.Statement (.ld_C_atHL) :=
  (rfl : lengthOf 0x4E = 1)
theorem EncodedLength.ld_C_A : EncodedLength.Statement (.ld_C_A) :=
  (rfl : lengthOf 0x4F = 1)
theorem EncodedLength.ld_D_B : EncodedLength.Statement (.ld_D_B) :=
  (rfl : lengthOf 0x50 = 1)
theorem EncodedLength.ld_D_C : EncodedLength.Statement (.ld_D_C) :=
  (rfl : lengthOf 0x51 = 1)
theorem EncodedLength.ld_D_D : EncodedLength.Statement (.ld_D_D) :=
  (rfl : lengthOf 0x52 = 1)
theorem EncodedLength.ld_D_E : EncodedLength.Statement (.ld_D_E) :=
  (rfl : lengthOf 0x53 = 1)
theorem EncodedLength.ld_D_H : EncodedLength.Statement (.ld_D_H) :=
  (rfl : lengthOf 0x54 = 1)
theorem EncodedLength.ld_D_L : EncodedLength.Statement (.ld_D_L) :=
  (rfl : lengthOf 0x55 = 1)
theorem EncodedLength.ld_D_atHL : EncodedLength.Statement (.ld_D_atHL) :=
  (rfl : lengthOf 0x56 = 1)
theorem EncodedLength.ld_D_A : EncodedLength.Statement (.ld_D_A) :=
  (rfl : lengthOf 0x57 = 1)
theorem EncodedLength.ld_E_B : EncodedLength.Statement (.ld_E_B) :=
  (rfl : lengthOf 0x58 = 1)
theorem EncodedLength.ld_E_C : EncodedLength.Statement (.ld_E_C) :=
  (rfl : lengthOf 0x59 = 1)
theorem EncodedLength.ld_E_D : EncodedLength.Statement (.ld_E_D) :=
  (rfl : lengthOf 0x5A = 1)
theorem EncodedLength.ld_E_E : EncodedLength.Statement (.ld_E_E) :=
  (rfl : lengthOf 0x5B = 1)
theorem EncodedLength.ld_E_H : EncodedLength.Statement (.ld_E_H) :=
  (rfl : lengthOf 0x5C = 1)
theorem EncodedLength.ld_E_L : EncodedLength.Statement (.ld_E_L) :=
  (rfl : lengthOf 0x5D = 1)
theorem EncodedLength.ld_E_atHL : EncodedLength.Statement (.ld_E_atHL) :=
  (rfl : lengthOf 0x5E = 1)
theorem EncodedLength.ld_E_A : EncodedLength.Statement (.ld_E_A) :=
  (rfl : lengthOf 0x5F = 1)
theorem EncodedLength.ld_H_B : EncodedLength.Statement (.ld_H_B) :=
  (rfl : lengthOf 0x60 = 1)
theorem EncodedLength.ld_H_C : EncodedLength.Statement (.ld_H_C) :=
  (rfl : lengthOf 0x61 = 1)
theorem EncodedLength.ld_H_D : EncodedLength.Statement (.ld_H_D) :=
  (rfl : lengthOf 0x62 = 1)
theorem EncodedLength.ld_H_E : EncodedLength.Statement (.ld_H_E) :=
  (rfl : lengthOf 0x63 = 1)
theorem EncodedLength.ld_H_H : EncodedLength.Statement (.ld_H_H) :=
  (rfl : lengthOf 0x64 = 1)
theorem EncodedLength.ld_H_L : EncodedLength.Statement (.ld_H_L) :=
  (rfl : lengthOf 0x65 = 1)
theorem EncodedLength.ld_H_atHL : EncodedLength.Statement (.ld_H_atHL) :=
  (rfl : lengthOf 0x66 = 1)
theorem EncodedLength.ld_H_A : EncodedLength.Statement (.ld_H_A) :=
  (rfl : lengthOf 0x67 = 1)
theorem EncodedLength.ld_L_B : EncodedLength.Statement (.ld_L_B) :=
  (rfl : lengthOf 0x68 = 1)
theorem EncodedLength.ld_L_C : EncodedLength.Statement (.ld_L_C) :=
  (rfl : lengthOf 0x69 = 1)
theorem EncodedLength.ld_L_D : EncodedLength.Statement (.ld_L_D) :=
  (rfl : lengthOf 0x6A = 1)
theorem EncodedLength.ld_L_E : EncodedLength.Statement (.ld_L_E) :=
  (rfl : lengthOf 0x6B = 1)
theorem EncodedLength.ld_L_H : EncodedLength.Statement (.ld_L_H) :=
  (rfl : lengthOf 0x6C = 1)
theorem EncodedLength.ld_L_L : EncodedLength.Statement (.ld_L_L) :=
  (rfl : lengthOf 0x6D = 1)
theorem EncodedLength.ld_L_atHL : EncodedLength.Statement (.ld_L_atHL) :=
  (rfl : lengthOf 0x6E = 1)
theorem EncodedLength.ld_L_A : EncodedLength.Statement (.ld_L_A) :=
  (rfl : lengthOf 0x6F = 1)
theorem EncodedLength.ld_atHL_B : EncodedLength.Statement (.ld_atHL_B) :=
  (rfl : lengthOf 0x70 = 1)
theorem EncodedLength.ld_atHL_C : EncodedLength.Statement (.ld_atHL_C) :=
  (rfl : lengthOf 0x71 = 1)
theorem EncodedLength.ld_atHL_D : EncodedLength.Statement (.ld_atHL_D) :=
  (rfl : lengthOf 0x72 = 1)
theorem EncodedLength.ld_atHL_E : EncodedLength.Statement (.ld_atHL_E) :=
  (rfl : lengthOf 0x73 = 1)
theorem EncodedLength.ld_atHL_H : EncodedLength.Statement (.ld_atHL_H) :=
  (rfl : lengthOf 0x74 = 1)
theorem EncodedLength.ld_atHL_L : EncodedLength.Statement (.ld_atHL_L) :=
  (rfl : lengthOf 0x75 = 1)
theorem EncodedLength.halt : EncodedLength.Statement (.halt) :=
  (rfl : lengthOf 0x76 = 1)
theorem EncodedLength.ld_atHL_A : EncodedLength.Statement (.ld_atHL_A) :=
  (rfl : lengthOf 0x77 = 1)
theorem EncodedLength.ld_A_B : EncodedLength.Statement (.ld_A_B) :=
  (rfl : lengthOf 0x78 = 1)
theorem EncodedLength.ld_A_C : EncodedLength.Statement (.ld_A_C) :=
  (rfl : lengthOf 0x79 = 1)
theorem EncodedLength.ld_A_D : EncodedLength.Statement (.ld_A_D) :=
  (rfl : lengthOf 0x7A = 1)
theorem EncodedLength.ld_A_E : EncodedLength.Statement (.ld_A_E) :=
  (rfl : lengthOf 0x7B = 1)
theorem EncodedLength.ld_A_H : EncodedLength.Statement (.ld_A_H) :=
  (rfl : lengthOf 0x7C = 1)
theorem EncodedLength.ld_A_L : EncodedLength.Statement (.ld_A_L) :=
  (rfl : lengthOf 0x7D = 1)
theorem EncodedLength.ld_A_atHL : EncodedLength.Statement (.ld_A_atHL) :=
  (rfl : lengthOf 0x7E = 1)
theorem EncodedLength.ld_A_A : EncodedLength.Statement (.ld_A_A) :=
  (rfl : lengthOf 0x7F = 1)
theorem EncodedLength.add_A_B : EncodedLength.Statement (.add_A_B) :=
  (rfl : lengthOf 0x80 = 1)
theorem EncodedLength.add_A_C : EncodedLength.Statement (.add_A_C) :=
  (rfl : lengthOf 0x81 = 1)
theorem EncodedLength.add_A_D : EncodedLength.Statement (.add_A_D) :=
  (rfl : lengthOf 0x82 = 1)
theorem EncodedLength.add_A_E : EncodedLength.Statement (.add_A_E) :=
  (rfl : lengthOf 0x83 = 1)
theorem EncodedLength.add_A_H : EncodedLength.Statement (.add_A_H) :=
  (rfl : lengthOf 0x84 = 1)
theorem EncodedLength.add_A_L : EncodedLength.Statement (.add_A_L) :=
  (rfl : lengthOf 0x85 = 1)
theorem EncodedLength.add_A_atHL : EncodedLength.Statement (.add_A_atHL) :=
  (rfl : lengthOf 0x86 = 1)
theorem EncodedLength.add_A_A : EncodedLength.Statement (.add_A_A) :=
  (rfl : lengthOf 0x87 = 1)
theorem EncodedLength.adc_A_B : EncodedLength.Statement (.adc_A_B) :=
  (rfl : lengthOf 0x88 = 1)
theorem EncodedLength.adc_A_C : EncodedLength.Statement (.adc_A_C) :=
  (rfl : lengthOf 0x89 = 1)
theorem EncodedLength.adc_A_D : EncodedLength.Statement (.adc_A_D) :=
  (rfl : lengthOf 0x8A = 1)
theorem EncodedLength.adc_A_E : EncodedLength.Statement (.adc_A_E) :=
  (rfl : lengthOf 0x8B = 1)
theorem EncodedLength.adc_A_H : EncodedLength.Statement (.adc_A_H) :=
  (rfl : lengthOf 0x8C = 1)
theorem EncodedLength.adc_A_L : EncodedLength.Statement (.adc_A_L) :=
  (rfl : lengthOf 0x8D = 1)
theorem EncodedLength.adc_A_atHL : EncodedLength.Statement (.adc_A_atHL) :=
  (rfl : lengthOf 0x8E = 1)
theorem EncodedLength.adc_A_A : EncodedLength.Statement (.adc_A_A) :=
  (rfl : lengthOf 0x8F = 1)
theorem EncodedLength.sub_B : EncodedLength.Statement (.sub_B) :=
  (rfl : lengthOf 0x90 = 1)
theorem EncodedLength.sub_C : EncodedLength.Statement (.sub_C) :=
  (rfl : lengthOf 0x91 = 1)
theorem EncodedLength.sub_D : EncodedLength.Statement (.sub_D) :=
  (rfl : lengthOf 0x92 = 1)
theorem EncodedLength.sub_E : EncodedLength.Statement (.sub_E) :=
  (rfl : lengthOf 0x93 = 1)
theorem EncodedLength.sub_H : EncodedLength.Statement (.sub_H) :=
  (rfl : lengthOf 0x94 = 1)
theorem EncodedLength.sub_L : EncodedLength.Statement (.sub_L) :=
  (rfl : lengthOf 0x95 = 1)
theorem EncodedLength.sub_atHL : EncodedLength.Statement (.sub_atHL) :=
  (rfl : lengthOf 0x96 = 1)
theorem EncodedLength.sub_A : EncodedLength.Statement (.sub_A) :=
  (rfl : lengthOf 0x97 = 1)
theorem EncodedLength.sbc_A_B : EncodedLength.Statement (.sbc_A_B) :=
  (rfl : lengthOf 0x98 = 1)
theorem EncodedLength.sbc_A_C : EncodedLength.Statement (.sbc_A_C) :=
  (rfl : lengthOf 0x99 = 1)
theorem EncodedLength.sbc_A_D : EncodedLength.Statement (.sbc_A_D) :=
  (rfl : lengthOf 0x9A = 1)
theorem EncodedLength.sbc_A_E : EncodedLength.Statement (.sbc_A_E) :=
  (rfl : lengthOf 0x9B = 1)
theorem EncodedLength.sbc_A_H : EncodedLength.Statement (.sbc_A_H) :=
  (rfl : lengthOf 0x9C = 1)
theorem EncodedLength.sbc_A_L : EncodedLength.Statement (.sbc_A_L) :=
  (rfl : lengthOf 0x9D = 1)
theorem EncodedLength.sbc_A_atHL : EncodedLength.Statement (.sbc_A_atHL) :=
  (rfl : lengthOf 0x9E = 1)
theorem EncodedLength.sbc_A_A : EncodedLength.Statement (.sbc_A_A) :=
  (rfl : lengthOf 0x9F = 1)
theorem EncodedLength.and_B : EncodedLength.Statement (.and_B) :=
  (rfl : lengthOf 0xA0 = 1)
theorem EncodedLength.and_C : EncodedLength.Statement (.and_C) :=
  (rfl : lengthOf 0xA1 = 1)
theorem EncodedLength.and_D : EncodedLength.Statement (.and_D) :=
  (rfl : lengthOf 0xA2 = 1)
theorem EncodedLength.and_E : EncodedLength.Statement (.and_E) :=
  (rfl : lengthOf 0xA3 = 1)
theorem EncodedLength.and_H : EncodedLength.Statement (.and_H) :=
  (rfl : lengthOf 0xA4 = 1)
theorem EncodedLength.and_L : EncodedLength.Statement (.and_L) :=
  (rfl : lengthOf 0xA5 = 1)
theorem EncodedLength.and_atHL : EncodedLength.Statement (.and_atHL) :=
  (rfl : lengthOf 0xA6 = 1)
theorem EncodedLength.and_A : EncodedLength.Statement (.and_A) :=
  (rfl : lengthOf 0xA7 = 1)
theorem EncodedLength.xor_B : EncodedLength.Statement (.xor_B) :=
  (rfl : lengthOf 0xA8 = 1)
theorem EncodedLength.xor_C : EncodedLength.Statement (.xor_C) :=
  (rfl : lengthOf 0xA9 = 1)
theorem EncodedLength.xor_D : EncodedLength.Statement (.xor_D) :=
  (rfl : lengthOf 0xAA = 1)
theorem EncodedLength.xor_E : EncodedLength.Statement (.xor_E) :=
  (rfl : lengthOf 0xAB = 1)
theorem EncodedLength.xor_H : EncodedLength.Statement (.xor_H) :=
  (rfl : lengthOf 0xAC = 1)
theorem EncodedLength.xor_L : EncodedLength.Statement (.xor_L) :=
  (rfl : lengthOf 0xAD = 1)
theorem EncodedLength.xor_atHL : EncodedLength.Statement (.xor_atHL) :=
  (rfl : lengthOf 0xAE = 1)
theorem EncodedLength.xor_A : EncodedLength.Statement (.xor_A) :=
  (rfl : lengthOf 0xAF = 1)
theorem EncodedLength.or_B : EncodedLength.Statement (.or_B) :=
  (rfl : lengthOf 0xB0 = 1)
theorem EncodedLength.or_C : EncodedLength.Statement (.or_C) :=
  (rfl : lengthOf 0xB1 = 1)
theorem EncodedLength.or_D : EncodedLength.Statement (.or_D) :=
  (rfl : lengthOf 0xB2 = 1)
theorem EncodedLength.or_E : EncodedLength.Statement (.or_E) :=
  (rfl : lengthOf 0xB3 = 1)
theorem EncodedLength.or_H : EncodedLength.Statement (.or_H) :=
  (rfl : lengthOf 0xB4 = 1)
theorem EncodedLength.or_L : EncodedLength.Statement (.or_L) :=
  (rfl : lengthOf 0xB5 = 1)
theorem EncodedLength.or_atHL : EncodedLength.Statement (.or_atHL) :=
  (rfl : lengthOf 0xB6 = 1)
theorem EncodedLength.or_A : EncodedLength.Statement (.or_A) :=
  (rfl : lengthOf 0xB7 = 1)
theorem EncodedLength.cp_B : EncodedLength.Statement (.cp_B) :=
  (rfl : lengthOf 0xB8 = 1)
theorem EncodedLength.cp_C : EncodedLength.Statement (.cp_C) :=
  (rfl : lengthOf 0xB9 = 1)
theorem EncodedLength.cp_D : EncodedLength.Statement (.cp_D) :=
  (rfl : lengthOf 0xBA = 1)
theorem EncodedLength.cp_E : EncodedLength.Statement (.cp_E) :=
  (rfl : lengthOf 0xBB = 1)
theorem EncodedLength.cp_H : EncodedLength.Statement (.cp_H) :=
  (rfl : lengthOf 0xBC = 1)
theorem EncodedLength.cp_L : EncodedLength.Statement (.cp_L) :=
  (rfl : lengthOf 0xBD = 1)
theorem EncodedLength.cp_atHL : EncodedLength.Statement (.cp_atHL) :=
  (rfl : lengthOf 0xBE = 1)
theorem EncodedLength.cp_A : EncodedLength.Statement (.cp_A) :=
  (rfl : lengthOf 0xBF = 1)
theorem EncodedLength.ret_NZ : EncodedLength.Statement (.ret_NZ) :=
  (rfl : lengthOf 0xC0 = 1)
theorem EncodedLength.pop_BC : EncodedLength.Statement (.pop_BC) :=
  (rfl : lengthOf 0xC1 = 1)
theorem EncodedLength.jp_NZ_a16 (a16 : Word) : EncodedLength.Statement (.jp_NZ_a16 a16) :=
  (rfl : lengthOf 0xC2 = 3)
theorem EncodedLength.jp_a16 (a16 : Word) : EncodedLength.Statement (.jp_a16 a16) :=
  (rfl : lengthOf 0xC3 = 3)
theorem EncodedLength.call_NZ_a16 (a16 : Word) : EncodedLength.Statement (.call_NZ_a16 a16) :=
  (rfl : lengthOf 0xC4 = 3)
theorem EncodedLength.push_BC : EncodedLength.Statement (.push_BC) :=
  (rfl : lengthOf 0xC5 = 1)
theorem EncodedLength.add_A_d8 (d8 : Byte) : EncodedLength.Statement (.add_A_d8 d8) :=
  (rfl : lengthOf 0xC6 = 2)
theorem EncodedLength.rst_00H : EncodedLength.Statement (.rst_00H) :=
  (rfl : lengthOf 0xC7 = 1)
theorem EncodedLength.ret_Z : EncodedLength.Statement (.ret_Z) :=
  (rfl : lengthOf 0xC8 = 1)
theorem EncodedLength.ret : EncodedLength.Statement (.ret) :=
  (rfl : lengthOf 0xC9 = 1)
theorem EncodedLength.jp_Z_a16 (a16 : Word) : EncodedLength.Statement (.jp_Z_a16 a16) :=
  (rfl : lengthOf 0xCA = 3)
theorem EncodedLength.call_Z_a16 (a16 : Word) : EncodedLength.Statement (.call_Z_a16 a16) :=
  (rfl : lengthOf 0xCC = 3)
theorem EncodedLength.call_a16 (a16 : Word) : EncodedLength.Statement (.call_a16 a16) :=
  (rfl : lengthOf 0xCD = 3)
theorem EncodedLength.adc_A_d8 (d8 : Byte) : EncodedLength.Statement (.adc_A_d8 d8) :=
  (rfl : lengthOf 0xCE = 2)
theorem EncodedLength.rst_08H : EncodedLength.Statement (.rst_08H) :=
  (rfl : lengthOf 0xCF = 1)
theorem EncodedLength.ret_NC : EncodedLength.Statement (.ret_NC) :=
  (rfl : lengthOf 0xD0 = 1)
theorem EncodedLength.pop_DE : EncodedLength.Statement (.pop_DE) :=
  (rfl : lengthOf 0xD1 = 1)
theorem EncodedLength.jp_NC_a16 (a16 : Word) : EncodedLength.Statement (.jp_NC_a16 a16) :=
  (rfl : lengthOf 0xD2 = 3)
theorem EncodedLength.illegal_D3 : EncodedLength.Statement (.illegal_D3) :=
  (rfl : lengthOf 0xD3 = 1)
theorem EncodedLength.call_NC_a16 (a16 : Word) : EncodedLength.Statement (.call_NC_a16 a16) :=
  (rfl : lengthOf 0xD4 = 3)
theorem EncodedLength.push_DE : EncodedLength.Statement (.push_DE) :=
  (rfl : lengthOf 0xD5 = 1)
theorem EncodedLength.sub_d8 (d8 : Byte) : EncodedLength.Statement (.sub_d8 d8) :=
  (rfl : lengthOf 0xD6 = 2)
theorem EncodedLength.rst_10H : EncodedLength.Statement (.rst_10H) :=
  (rfl : lengthOf 0xD7 = 1)
theorem EncodedLength.ret_C : EncodedLength.Statement (.ret_C) :=
  (rfl : lengthOf 0xD8 = 1)
theorem EncodedLength.reti : EncodedLength.Statement (.reti) :=
  (rfl : lengthOf 0xD9 = 1)
theorem EncodedLength.jp_C_a16 (a16 : Word) : EncodedLength.Statement (.jp_C_a16 a16) :=
  (rfl : lengthOf 0xDA = 3)
theorem EncodedLength.illegal_DB : EncodedLength.Statement (.illegal_DB) :=
  (rfl : lengthOf 0xDB = 1)
theorem EncodedLength.call_C_a16 (a16 : Word) : EncodedLength.Statement (.call_C_a16 a16) :=
  (rfl : lengthOf 0xDC = 3)
theorem EncodedLength.illegal_DD : EncodedLength.Statement (.illegal_DD) :=
  (rfl : lengthOf 0xDD = 1)
theorem EncodedLength.sbc_A_d8 (d8 : Byte) : EncodedLength.Statement (.sbc_A_d8 d8) :=
  (rfl : lengthOf 0xDE = 2)
theorem EncodedLength.rst_18H : EncodedLength.Statement (.rst_18H) :=
  (rfl : lengthOf 0xDF = 1)
theorem EncodedLength.ldh_atA8_A (a8 : Byte) : EncodedLength.Statement (.ldh_atA8_A a8) :=
  (rfl : lengthOf 0xE0 = 2)
theorem EncodedLength.pop_HL : EncodedLength.Statement (.pop_HL) :=
  (rfl : lengthOf 0xE1 = 1)
theorem EncodedLength.ld_atC_A : EncodedLength.Statement (.ld_atC_A) :=
  (rfl : lengthOf 0xE2 = 1)
theorem EncodedLength.illegal_E3 : EncodedLength.Statement (.illegal_E3) :=
  (rfl : lengthOf 0xE3 = 1)
theorem EncodedLength.illegal_E4 : EncodedLength.Statement (.illegal_E4) :=
  (rfl : lengthOf 0xE4 = 1)
theorem EncodedLength.push_HL : EncodedLength.Statement (.push_HL) :=
  (rfl : lengthOf 0xE5 = 1)
theorem EncodedLength.and_d8 (d8 : Byte) : EncodedLength.Statement (.and_d8 d8) :=
  (rfl : lengthOf 0xE6 = 2)
theorem EncodedLength.rst_20H : EncodedLength.Statement (.rst_20H) :=
  (rfl : lengthOf 0xE7 = 1)
theorem EncodedLength.add_SP_e8 (e8 : Byte) : EncodedLength.Statement (.add_SP_e8 e8) :=
  (rfl : lengthOf 0xE8 = 2)
theorem EncodedLength.jp_HL : EncodedLength.Statement (.jp_HL) :=
  (rfl : lengthOf 0xE9 = 1)
theorem EncodedLength.ld_atA16_A (a16 : Word) : EncodedLength.Statement (.ld_atA16_A a16) :=
  (rfl : lengthOf 0xEA = 3)
theorem EncodedLength.illegal_EB : EncodedLength.Statement (.illegal_EB) :=
  (rfl : lengthOf 0xEB = 1)
theorem EncodedLength.illegal_EC : EncodedLength.Statement (.illegal_EC) :=
  (rfl : lengthOf 0xEC = 1)
theorem EncodedLength.illegal_ED : EncodedLength.Statement (.illegal_ED) :=
  (rfl : lengthOf 0xED = 1)
theorem EncodedLength.xor_d8 (d8 : Byte) : EncodedLength.Statement (.xor_d8 d8) :=
  (rfl : lengthOf 0xEE = 2)
theorem EncodedLength.rst_28H : EncodedLength.Statement (.rst_28H) :=
  (rfl : lengthOf 0xEF = 1)
theorem EncodedLength.ldh_A_atA8 (a8 : Byte) : EncodedLength.Statement (.ldh_A_atA8 a8) :=
  (rfl : lengthOf 0xF0 = 2)
theorem EncodedLength.pop_AF : EncodedLength.Statement (.pop_AF) :=
  (rfl : lengthOf 0xF1 = 1)
theorem EncodedLength.ld_A_atC : EncodedLength.Statement (.ld_A_atC) :=
  (rfl : lengthOf 0xF2 = 1)
theorem EncodedLength.di : EncodedLength.Statement (.di) :=
  (rfl : lengthOf 0xF3 = 1)
theorem EncodedLength.illegal_F4 : EncodedLength.Statement (.illegal_F4) :=
  (rfl : lengthOf 0xF4 = 1)
theorem EncodedLength.push_AF : EncodedLength.Statement (.push_AF) :=
  (rfl : lengthOf 0xF5 = 1)
theorem EncodedLength.or_d8 (d8 : Byte) : EncodedLength.Statement (.or_d8 d8) :=
  (rfl : lengthOf 0xF6 = 2)
theorem EncodedLength.rst_30H : EncodedLength.Statement (.rst_30H) :=
  (rfl : lengthOf 0xF7 = 1)
theorem EncodedLength.ld_HL_SPe8 (e8 : Byte) : EncodedLength.Statement (.ld_HL_SPe8 e8) :=
  (rfl : lengthOf 0xF8 = 2)
theorem EncodedLength.ld_SP_HL : EncodedLength.Statement (.ld_SP_HL) :=
  (rfl : lengthOf 0xF9 = 1)
theorem EncodedLength.ld_A_atA16 (a16 : Word) : EncodedLength.Statement (.ld_A_atA16 a16) :=
  (rfl : lengthOf 0xFA = 3)
theorem EncodedLength.ei : EncodedLength.Statement (.ei) :=
  (rfl : lengthOf 0xFB = 1)
theorem EncodedLength.illegal_FC : EncodedLength.Statement (.illegal_FC) :=
  (rfl : lengthOf 0xFC = 1)
theorem EncodedLength.illegal_FD : EncodedLength.Statement (.illegal_FD) :=
  (rfl : lengthOf 0xFD = 1)
theorem EncodedLength.cp_d8 (d8 : Byte) : EncodedLength.Statement (.cp_d8 d8) :=
  (rfl : lengthOf 0xFE = 2)
theorem EncodedLength.rst_38H : EncodedLength.Statement (.rst_38H) :=
  (rfl : lengthOf 0xFF = 1)
theorem EncodedLength.rlc_B : EncodedLength.Statement (.rlc_B) :=
  (rfl : lengthOf 0xCB = 2)
theorem EncodedLength.rlc_C : EncodedLength.Statement (.rlc_C) :=
  (rfl : lengthOf 0xCB = 2)
theorem EncodedLength.rlc_D : EncodedLength.Statement (.rlc_D) :=
  (rfl : lengthOf 0xCB = 2)
theorem EncodedLength.rlc_E : EncodedLength.Statement (.rlc_E) :=
  (rfl : lengthOf 0xCB = 2)
theorem EncodedLength.rlc_H : EncodedLength.Statement (.rlc_H) :=
  (rfl : lengthOf 0xCB = 2)
theorem EncodedLength.rlc_L : EncodedLength.Statement (.rlc_L) :=
  (rfl : lengthOf 0xCB = 2)
theorem EncodedLength.rlc_atHL : EncodedLength.Statement (.rlc_atHL) :=
  (rfl : lengthOf 0xCB = 2)
theorem EncodedLength.rlc_A : EncodedLength.Statement (.rlc_A) :=
  (rfl : lengthOf 0xCB = 2)
theorem EncodedLength.rrc_B : EncodedLength.Statement (.rrc_B) :=
  (rfl : lengthOf 0xCB = 2)
theorem EncodedLength.rrc_C : EncodedLength.Statement (.rrc_C) :=
  (rfl : lengthOf 0xCB = 2)
theorem EncodedLength.rrc_D : EncodedLength.Statement (.rrc_D) :=
  (rfl : lengthOf 0xCB = 2)
theorem EncodedLength.rrc_E : EncodedLength.Statement (.rrc_E) :=
  (rfl : lengthOf 0xCB = 2)
theorem EncodedLength.rrc_H : EncodedLength.Statement (.rrc_H) :=
  (rfl : lengthOf 0xCB = 2)
theorem EncodedLength.rrc_L : EncodedLength.Statement (.rrc_L) :=
  (rfl : lengthOf 0xCB = 2)
theorem EncodedLength.rrc_atHL : EncodedLength.Statement (.rrc_atHL) :=
  (rfl : lengthOf 0xCB = 2)
theorem EncodedLength.rrc_A : EncodedLength.Statement (.rrc_A) :=
  (rfl : lengthOf 0xCB = 2)
theorem EncodedLength.rl_B : EncodedLength.Statement (.rl_B) :=
  (rfl : lengthOf 0xCB = 2)
theorem EncodedLength.rl_C : EncodedLength.Statement (.rl_C) :=
  (rfl : lengthOf 0xCB = 2)
theorem EncodedLength.rl_D : EncodedLength.Statement (.rl_D) :=
  (rfl : lengthOf 0xCB = 2)
theorem EncodedLength.rl_E : EncodedLength.Statement (.rl_E) :=
  (rfl : lengthOf 0xCB = 2)
theorem EncodedLength.rl_H : EncodedLength.Statement (.rl_H) :=
  (rfl : lengthOf 0xCB = 2)
theorem EncodedLength.rl_L : EncodedLength.Statement (.rl_L) :=
  (rfl : lengthOf 0xCB = 2)
theorem EncodedLength.rl_atHL : EncodedLength.Statement (.rl_atHL) :=
  (rfl : lengthOf 0xCB = 2)
theorem EncodedLength.rl_A : EncodedLength.Statement (.rl_A) :=
  (rfl : lengthOf 0xCB = 2)
theorem EncodedLength.rr_B : EncodedLength.Statement (.rr_B) :=
  (rfl : lengthOf 0xCB = 2)
theorem EncodedLength.rr_C : EncodedLength.Statement (.rr_C) :=
  (rfl : lengthOf 0xCB = 2)
theorem EncodedLength.rr_D : EncodedLength.Statement (.rr_D) :=
  (rfl : lengthOf 0xCB = 2)
theorem EncodedLength.rr_E : EncodedLength.Statement (.rr_E) :=
  (rfl : lengthOf 0xCB = 2)
theorem EncodedLength.rr_H : EncodedLength.Statement (.rr_H) :=
  (rfl : lengthOf 0xCB = 2)
theorem EncodedLength.rr_L : EncodedLength.Statement (.rr_L) :=
  (rfl : lengthOf 0xCB = 2)
theorem EncodedLength.rr_atHL : EncodedLength.Statement (.rr_atHL) :=
  (rfl : lengthOf 0xCB = 2)
theorem EncodedLength.rr_A : EncodedLength.Statement (.rr_A) :=
  (rfl : lengthOf 0xCB = 2)
theorem EncodedLength.sla_B : EncodedLength.Statement (.sla_B) :=
  (rfl : lengthOf 0xCB = 2)
theorem EncodedLength.sla_C : EncodedLength.Statement (.sla_C) :=
  (rfl : lengthOf 0xCB = 2)
theorem EncodedLength.sla_D : EncodedLength.Statement (.sla_D) :=
  (rfl : lengthOf 0xCB = 2)
theorem EncodedLength.sla_E : EncodedLength.Statement (.sla_E) :=
  (rfl : lengthOf 0xCB = 2)
theorem EncodedLength.sla_H : EncodedLength.Statement (.sla_H) :=
  (rfl : lengthOf 0xCB = 2)
theorem EncodedLength.sla_L : EncodedLength.Statement (.sla_L) :=
  (rfl : lengthOf 0xCB = 2)
theorem EncodedLength.sla_atHL : EncodedLength.Statement (.sla_atHL) :=
  (rfl : lengthOf 0xCB = 2)
theorem EncodedLength.sla_A : EncodedLength.Statement (.sla_A) :=
  (rfl : lengthOf 0xCB = 2)
theorem EncodedLength.sra_B : EncodedLength.Statement (.sra_B) :=
  (rfl : lengthOf 0xCB = 2)
theorem EncodedLength.sra_C : EncodedLength.Statement (.sra_C) :=
  (rfl : lengthOf 0xCB = 2)
theorem EncodedLength.sra_D : EncodedLength.Statement (.sra_D) :=
  (rfl : lengthOf 0xCB = 2)
theorem EncodedLength.sra_E : EncodedLength.Statement (.sra_E) :=
  (rfl : lengthOf 0xCB = 2)
theorem EncodedLength.sra_H : EncodedLength.Statement (.sra_H) :=
  (rfl : lengthOf 0xCB = 2)
theorem EncodedLength.sra_L : EncodedLength.Statement (.sra_L) :=
  (rfl : lengthOf 0xCB = 2)
theorem EncodedLength.sra_atHL : EncodedLength.Statement (.sra_atHL) :=
  (rfl : lengthOf 0xCB = 2)
theorem EncodedLength.sra_A : EncodedLength.Statement (.sra_A) :=
  (rfl : lengthOf 0xCB = 2)
theorem EncodedLength.swap_B : EncodedLength.Statement (.swap_B) :=
  (rfl : lengthOf 0xCB = 2)
theorem EncodedLength.swap_C : EncodedLength.Statement (.swap_C) :=
  (rfl : lengthOf 0xCB = 2)
theorem EncodedLength.swap_D : EncodedLength.Statement (.swap_D) :=
  (rfl : lengthOf 0xCB = 2)
theorem EncodedLength.swap_E : EncodedLength.Statement (.swap_E) :=
  (rfl : lengthOf 0xCB = 2)
theorem EncodedLength.swap_H : EncodedLength.Statement (.swap_H) :=
  (rfl : lengthOf 0xCB = 2)
theorem EncodedLength.swap_L : EncodedLength.Statement (.swap_L) :=
  (rfl : lengthOf 0xCB = 2)
theorem EncodedLength.swap_atHL : EncodedLength.Statement (.swap_atHL) :=
  (rfl : lengthOf 0xCB = 2)
theorem EncodedLength.swap_A : EncodedLength.Statement (.swap_A) :=
  (rfl : lengthOf 0xCB = 2)
theorem EncodedLength.srl_B : EncodedLength.Statement (.srl_B) :=
  (rfl : lengthOf 0xCB = 2)
theorem EncodedLength.srl_C : EncodedLength.Statement (.srl_C) :=
  (rfl : lengthOf 0xCB = 2)
theorem EncodedLength.srl_D : EncodedLength.Statement (.srl_D) :=
  (rfl : lengthOf 0xCB = 2)
theorem EncodedLength.srl_E : EncodedLength.Statement (.srl_E) :=
  (rfl : lengthOf 0xCB = 2)
theorem EncodedLength.srl_H : EncodedLength.Statement (.srl_H) :=
  (rfl : lengthOf 0xCB = 2)
theorem EncodedLength.srl_L : EncodedLength.Statement (.srl_L) :=
  (rfl : lengthOf 0xCB = 2)
theorem EncodedLength.srl_atHL : EncodedLength.Statement (.srl_atHL) :=
  (rfl : lengthOf 0xCB = 2)
theorem EncodedLength.srl_A : EncodedLength.Statement (.srl_A) :=
  (rfl : lengthOf 0xCB = 2)
theorem EncodedLength.bit_0_B : EncodedLength.Statement (.bit_0_B) :=
  (rfl : lengthOf 0xCB = 2)
theorem EncodedLength.bit_0_C : EncodedLength.Statement (.bit_0_C) :=
  (rfl : lengthOf 0xCB = 2)
theorem EncodedLength.bit_0_D : EncodedLength.Statement (.bit_0_D) :=
  (rfl : lengthOf 0xCB = 2)
theorem EncodedLength.bit_0_E : EncodedLength.Statement (.bit_0_E) :=
  (rfl : lengthOf 0xCB = 2)
theorem EncodedLength.bit_0_H : EncodedLength.Statement (.bit_0_H) :=
  (rfl : lengthOf 0xCB = 2)
theorem EncodedLength.bit_0_L : EncodedLength.Statement (.bit_0_L) :=
  (rfl : lengthOf 0xCB = 2)
theorem EncodedLength.bit_0_atHL : EncodedLength.Statement (.bit_0_atHL) :=
  (rfl : lengthOf 0xCB = 2)
theorem EncodedLength.bit_0_A : EncodedLength.Statement (.bit_0_A) :=
  (rfl : lengthOf 0xCB = 2)
theorem EncodedLength.bit_1_B : EncodedLength.Statement (.bit_1_B) :=
  (rfl : lengthOf 0xCB = 2)
theorem EncodedLength.bit_1_C : EncodedLength.Statement (.bit_1_C) :=
  (rfl : lengthOf 0xCB = 2)
theorem EncodedLength.bit_1_D : EncodedLength.Statement (.bit_1_D) :=
  (rfl : lengthOf 0xCB = 2)
theorem EncodedLength.bit_1_E : EncodedLength.Statement (.bit_1_E) :=
  (rfl : lengthOf 0xCB = 2)
theorem EncodedLength.bit_1_H : EncodedLength.Statement (.bit_1_H) :=
  (rfl : lengthOf 0xCB = 2)
theorem EncodedLength.bit_1_L : EncodedLength.Statement (.bit_1_L) :=
  (rfl : lengthOf 0xCB = 2)
theorem EncodedLength.bit_1_atHL : EncodedLength.Statement (.bit_1_atHL) :=
  (rfl : lengthOf 0xCB = 2)
theorem EncodedLength.bit_1_A : EncodedLength.Statement (.bit_1_A) :=
  (rfl : lengthOf 0xCB = 2)
theorem EncodedLength.bit_2_B : EncodedLength.Statement (.bit_2_B) :=
  (rfl : lengthOf 0xCB = 2)
theorem EncodedLength.bit_2_C : EncodedLength.Statement (.bit_2_C) :=
  (rfl : lengthOf 0xCB = 2)
theorem EncodedLength.bit_2_D : EncodedLength.Statement (.bit_2_D) :=
  (rfl : lengthOf 0xCB = 2)
theorem EncodedLength.bit_2_E : EncodedLength.Statement (.bit_2_E) :=
  (rfl : lengthOf 0xCB = 2)
theorem EncodedLength.bit_2_H : EncodedLength.Statement (.bit_2_H) :=
  (rfl : lengthOf 0xCB = 2)
theorem EncodedLength.bit_2_L : EncodedLength.Statement (.bit_2_L) :=
  (rfl : lengthOf 0xCB = 2)
theorem EncodedLength.bit_2_atHL : EncodedLength.Statement (.bit_2_atHL) :=
  (rfl : lengthOf 0xCB = 2)
theorem EncodedLength.bit_2_A : EncodedLength.Statement (.bit_2_A) :=
  (rfl : lengthOf 0xCB = 2)
theorem EncodedLength.bit_3_B : EncodedLength.Statement (.bit_3_B) :=
  (rfl : lengthOf 0xCB = 2)
theorem EncodedLength.bit_3_C : EncodedLength.Statement (.bit_3_C) :=
  (rfl : lengthOf 0xCB = 2)
theorem EncodedLength.bit_3_D : EncodedLength.Statement (.bit_3_D) :=
  (rfl : lengthOf 0xCB = 2)
theorem EncodedLength.bit_3_E : EncodedLength.Statement (.bit_3_E) :=
  (rfl : lengthOf 0xCB = 2)
theorem EncodedLength.bit_3_H : EncodedLength.Statement (.bit_3_H) :=
  (rfl : lengthOf 0xCB = 2)
theorem EncodedLength.bit_3_L : EncodedLength.Statement (.bit_3_L) :=
  (rfl : lengthOf 0xCB = 2)
theorem EncodedLength.bit_3_atHL : EncodedLength.Statement (.bit_3_atHL) :=
  (rfl : lengthOf 0xCB = 2)
theorem EncodedLength.bit_3_A : EncodedLength.Statement (.bit_3_A) :=
  (rfl : lengthOf 0xCB = 2)
theorem EncodedLength.bit_4_B : EncodedLength.Statement (.bit_4_B) :=
  (rfl : lengthOf 0xCB = 2)
theorem EncodedLength.bit_4_C : EncodedLength.Statement (.bit_4_C) :=
  (rfl : lengthOf 0xCB = 2)
theorem EncodedLength.bit_4_D : EncodedLength.Statement (.bit_4_D) :=
  (rfl : lengthOf 0xCB = 2)
theorem EncodedLength.bit_4_E : EncodedLength.Statement (.bit_4_E) :=
  (rfl : lengthOf 0xCB = 2)
theorem EncodedLength.bit_4_H : EncodedLength.Statement (.bit_4_H) :=
  (rfl : lengthOf 0xCB = 2)
theorem EncodedLength.bit_4_L : EncodedLength.Statement (.bit_4_L) :=
  (rfl : lengthOf 0xCB = 2)
theorem EncodedLength.bit_4_atHL : EncodedLength.Statement (.bit_4_atHL) :=
  (rfl : lengthOf 0xCB = 2)
theorem EncodedLength.bit_4_A : EncodedLength.Statement (.bit_4_A) :=
  (rfl : lengthOf 0xCB = 2)
theorem EncodedLength.bit_5_B : EncodedLength.Statement (.bit_5_B) :=
  (rfl : lengthOf 0xCB = 2)
theorem EncodedLength.bit_5_C : EncodedLength.Statement (.bit_5_C) :=
  (rfl : lengthOf 0xCB = 2)
theorem EncodedLength.bit_5_D : EncodedLength.Statement (.bit_5_D) :=
  (rfl : lengthOf 0xCB = 2)
theorem EncodedLength.bit_5_E : EncodedLength.Statement (.bit_5_E) :=
  (rfl : lengthOf 0xCB = 2)
theorem EncodedLength.bit_5_H : EncodedLength.Statement (.bit_5_H) :=
  (rfl : lengthOf 0xCB = 2)
theorem EncodedLength.bit_5_L : EncodedLength.Statement (.bit_5_L) :=
  (rfl : lengthOf 0xCB = 2)
theorem EncodedLength.bit_5_atHL : EncodedLength.Statement (.bit_5_atHL) :=
  (rfl : lengthOf 0xCB = 2)
theorem EncodedLength.bit_5_A : EncodedLength.Statement (.bit_5_A) :=
  (rfl : lengthOf 0xCB = 2)
theorem EncodedLength.bit_6_B : EncodedLength.Statement (.bit_6_B) :=
  (rfl : lengthOf 0xCB = 2)
theorem EncodedLength.bit_6_C : EncodedLength.Statement (.bit_6_C) :=
  (rfl : lengthOf 0xCB = 2)
theorem EncodedLength.bit_6_D : EncodedLength.Statement (.bit_6_D) :=
  (rfl : lengthOf 0xCB = 2)
theorem EncodedLength.bit_6_E : EncodedLength.Statement (.bit_6_E) :=
  (rfl : lengthOf 0xCB = 2)
theorem EncodedLength.bit_6_H : EncodedLength.Statement (.bit_6_H) :=
  (rfl : lengthOf 0xCB = 2)
theorem EncodedLength.bit_6_L : EncodedLength.Statement (.bit_6_L) :=
  (rfl : lengthOf 0xCB = 2)
theorem EncodedLength.bit_6_atHL : EncodedLength.Statement (.bit_6_atHL) :=
  (rfl : lengthOf 0xCB = 2)
theorem EncodedLength.bit_6_A : EncodedLength.Statement (.bit_6_A) :=
  (rfl : lengthOf 0xCB = 2)
theorem EncodedLength.bit_7_B : EncodedLength.Statement (.bit_7_B) :=
  (rfl : lengthOf 0xCB = 2)
theorem EncodedLength.bit_7_C : EncodedLength.Statement (.bit_7_C) :=
  (rfl : lengthOf 0xCB = 2)
theorem EncodedLength.bit_7_D : EncodedLength.Statement (.bit_7_D) :=
  (rfl : lengthOf 0xCB = 2)
theorem EncodedLength.bit_7_E : EncodedLength.Statement (.bit_7_E) :=
  (rfl : lengthOf 0xCB = 2)
theorem EncodedLength.bit_7_H : EncodedLength.Statement (.bit_7_H) :=
  (rfl : lengthOf 0xCB = 2)
theorem EncodedLength.bit_7_L : EncodedLength.Statement (.bit_7_L) :=
  (rfl : lengthOf 0xCB = 2)
theorem EncodedLength.bit_7_atHL : EncodedLength.Statement (.bit_7_atHL) :=
  (rfl : lengthOf 0xCB = 2)
theorem EncodedLength.bit_7_A : EncodedLength.Statement (.bit_7_A) :=
  (rfl : lengthOf 0xCB = 2)
theorem EncodedLength.res_0_B : EncodedLength.Statement (.res_0_B) :=
  (rfl : lengthOf 0xCB = 2)
theorem EncodedLength.res_0_C : EncodedLength.Statement (.res_0_C) :=
  (rfl : lengthOf 0xCB = 2)
theorem EncodedLength.res_0_D : EncodedLength.Statement (.res_0_D) :=
  (rfl : lengthOf 0xCB = 2)
theorem EncodedLength.res_0_E : EncodedLength.Statement (.res_0_E) :=
  (rfl : lengthOf 0xCB = 2)
theorem EncodedLength.res_0_H : EncodedLength.Statement (.res_0_H) :=
  (rfl : lengthOf 0xCB = 2)
theorem EncodedLength.res_0_L : EncodedLength.Statement (.res_0_L) :=
  (rfl : lengthOf 0xCB = 2)
theorem EncodedLength.res_0_atHL : EncodedLength.Statement (.res_0_atHL) :=
  (rfl : lengthOf 0xCB = 2)
theorem EncodedLength.res_0_A : EncodedLength.Statement (.res_0_A) :=
  (rfl : lengthOf 0xCB = 2)
theorem EncodedLength.res_1_B : EncodedLength.Statement (.res_1_B) :=
  (rfl : lengthOf 0xCB = 2)
theorem EncodedLength.res_1_C : EncodedLength.Statement (.res_1_C) :=
  (rfl : lengthOf 0xCB = 2)
theorem EncodedLength.res_1_D : EncodedLength.Statement (.res_1_D) :=
  (rfl : lengthOf 0xCB = 2)
theorem EncodedLength.res_1_E : EncodedLength.Statement (.res_1_E) :=
  (rfl : lengthOf 0xCB = 2)
theorem EncodedLength.res_1_H : EncodedLength.Statement (.res_1_H) :=
  (rfl : lengthOf 0xCB = 2)
theorem EncodedLength.res_1_L : EncodedLength.Statement (.res_1_L) :=
  (rfl : lengthOf 0xCB = 2)
theorem EncodedLength.res_1_atHL : EncodedLength.Statement (.res_1_atHL) :=
  (rfl : lengthOf 0xCB = 2)
theorem EncodedLength.res_1_A : EncodedLength.Statement (.res_1_A) :=
  (rfl : lengthOf 0xCB = 2)
theorem EncodedLength.res_2_B : EncodedLength.Statement (.res_2_B) :=
  (rfl : lengthOf 0xCB = 2)
theorem EncodedLength.res_2_C : EncodedLength.Statement (.res_2_C) :=
  (rfl : lengthOf 0xCB = 2)
theorem EncodedLength.res_2_D : EncodedLength.Statement (.res_2_D) :=
  (rfl : lengthOf 0xCB = 2)
theorem EncodedLength.res_2_E : EncodedLength.Statement (.res_2_E) :=
  (rfl : lengthOf 0xCB = 2)
theorem EncodedLength.res_2_H : EncodedLength.Statement (.res_2_H) :=
  (rfl : lengthOf 0xCB = 2)
theorem EncodedLength.res_2_L : EncodedLength.Statement (.res_2_L) :=
  (rfl : lengthOf 0xCB = 2)
theorem EncodedLength.res_2_atHL : EncodedLength.Statement (.res_2_atHL) :=
  (rfl : lengthOf 0xCB = 2)
theorem EncodedLength.res_2_A : EncodedLength.Statement (.res_2_A) :=
  (rfl : lengthOf 0xCB = 2)
theorem EncodedLength.res_3_B : EncodedLength.Statement (.res_3_B) :=
  (rfl : lengthOf 0xCB = 2)
theorem EncodedLength.res_3_C : EncodedLength.Statement (.res_3_C) :=
  (rfl : lengthOf 0xCB = 2)
theorem EncodedLength.res_3_D : EncodedLength.Statement (.res_3_D) :=
  (rfl : lengthOf 0xCB = 2)
theorem EncodedLength.res_3_E : EncodedLength.Statement (.res_3_E) :=
  (rfl : lengthOf 0xCB = 2)
theorem EncodedLength.res_3_H : EncodedLength.Statement (.res_3_H) :=
  (rfl : lengthOf 0xCB = 2)
theorem EncodedLength.res_3_L : EncodedLength.Statement (.res_3_L) :=
  (rfl : lengthOf 0xCB = 2)
theorem EncodedLength.res_3_atHL : EncodedLength.Statement (.res_3_atHL) :=
  (rfl : lengthOf 0xCB = 2)
theorem EncodedLength.res_3_A : EncodedLength.Statement (.res_3_A) :=
  (rfl : lengthOf 0xCB = 2)
theorem EncodedLength.res_4_B : EncodedLength.Statement (.res_4_B) :=
  (rfl : lengthOf 0xCB = 2)
theorem EncodedLength.res_4_C : EncodedLength.Statement (.res_4_C) :=
  (rfl : lengthOf 0xCB = 2)
theorem EncodedLength.res_4_D : EncodedLength.Statement (.res_4_D) :=
  (rfl : lengthOf 0xCB = 2)
theorem EncodedLength.res_4_E : EncodedLength.Statement (.res_4_E) :=
  (rfl : lengthOf 0xCB = 2)
theorem EncodedLength.res_4_H : EncodedLength.Statement (.res_4_H) :=
  (rfl : lengthOf 0xCB = 2)
theorem EncodedLength.res_4_L : EncodedLength.Statement (.res_4_L) :=
  (rfl : lengthOf 0xCB = 2)
theorem EncodedLength.res_4_atHL : EncodedLength.Statement (.res_4_atHL) :=
  (rfl : lengthOf 0xCB = 2)
theorem EncodedLength.res_4_A : EncodedLength.Statement (.res_4_A) :=
  (rfl : lengthOf 0xCB = 2)
theorem EncodedLength.res_5_B : EncodedLength.Statement (.res_5_B) :=
  (rfl : lengthOf 0xCB = 2)
theorem EncodedLength.res_5_C : EncodedLength.Statement (.res_5_C) :=
  (rfl : lengthOf 0xCB = 2)
theorem EncodedLength.res_5_D : EncodedLength.Statement (.res_5_D) :=
  (rfl : lengthOf 0xCB = 2)
theorem EncodedLength.res_5_E : EncodedLength.Statement (.res_5_E) :=
  (rfl : lengthOf 0xCB = 2)
theorem EncodedLength.res_5_H : EncodedLength.Statement (.res_5_H) :=
  (rfl : lengthOf 0xCB = 2)
theorem EncodedLength.res_5_L : EncodedLength.Statement (.res_5_L) :=
  (rfl : lengthOf 0xCB = 2)
theorem EncodedLength.res_5_atHL : EncodedLength.Statement (.res_5_atHL) :=
  (rfl : lengthOf 0xCB = 2)
theorem EncodedLength.res_5_A : EncodedLength.Statement (.res_5_A) :=
  (rfl : lengthOf 0xCB = 2)
theorem EncodedLength.res_6_B : EncodedLength.Statement (.res_6_B) :=
  (rfl : lengthOf 0xCB = 2)
theorem EncodedLength.res_6_C : EncodedLength.Statement (.res_6_C) :=
  (rfl : lengthOf 0xCB = 2)
theorem EncodedLength.res_6_D : EncodedLength.Statement (.res_6_D) :=
  (rfl : lengthOf 0xCB = 2)
theorem EncodedLength.res_6_E : EncodedLength.Statement (.res_6_E) :=
  (rfl : lengthOf 0xCB = 2)
theorem EncodedLength.res_6_H : EncodedLength.Statement (.res_6_H) :=
  (rfl : lengthOf 0xCB = 2)
theorem EncodedLength.res_6_L : EncodedLength.Statement (.res_6_L) :=
  (rfl : lengthOf 0xCB = 2)
theorem EncodedLength.res_6_atHL : EncodedLength.Statement (.res_6_atHL) :=
  (rfl : lengthOf 0xCB = 2)
theorem EncodedLength.res_6_A : EncodedLength.Statement (.res_6_A) :=
  (rfl : lengthOf 0xCB = 2)
theorem EncodedLength.res_7_B : EncodedLength.Statement (.res_7_B) :=
  (rfl : lengthOf 0xCB = 2)
theorem EncodedLength.res_7_C : EncodedLength.Statement (.res_7_C) :=
  (rfl : lengthOf 0xCB = 2)
theorem EncodedLength.res_7_D : EncodedLength.Statement (.res_7_D) :=
  (rfl : lengthOf 0xCB = 2)
theorem EncodedLength.res_7_E : EncodedLength.Statement (.res_7_E) :=
  (rfl : lengthOf 0xCB = 2)
theorem EncodedLength.res_7_H : EncodedLength.Statement (.res_7_H) :=
  (rfl : lengthOf 0xCB = 2)
theorem EncodedLength.res_7_L : EncodedLength.Statement (.res_7_L) :=
  (rfl : lengthOf 0xCB = 2)
theorem EncodedLength.res_7_atHL : EncodedLength.Statement (.res_7_atHL) :=
  (rfl : lengthOf 0xCB = 2)
theorem EncodedLength.res_7_A : EncodedLength.Statement (.res_7_A) :=
  (rfl : lengthOf 0xCB = 2)
theorem EncodedLength.set_0_B : EncodedLength.Statement (.set_0_B) :=
  (rfl : lengthOf 0xCB = 2)
theorem EncodedLength.set_0_C : EncodedLength.Statement (.set_0_C) :=
  (rfl : lengthOf 0xCB = 2)
theorem EncodedLength.set_0_D : EncodedLength.Statement (.set_0_D) :=
  (rfl : lengthOf 0xCB = 2)
theorem EncodedLength.set_0_E : EncodedLength.Statement (.set_0_E) :=
  (rfl : lengthOf 0xCB = 2)
theorem EncodedLength.set_0_H : EncodedLength.Statement (.set_0_H) :=
  (rfl : lengthOf 0xCB = 2)
theorem EncodedLength.set_0_L : EncodedLength.Statement (.set_0_L) :=
  (rfl : lengthOf 0xCB = 2)
theorem EncodedLength.set_0_atHL : EncodedLength.Statement (.set_0_atHL) :=
  (rfl : lengthOf 0xCB = 2)
theorem EncodedLength.set_0_A : EncodedLength.Statement (.set_0_A) :=
  (rfl : lengthOf 0xCB = 2)
theorem EncodedLength.set_1_B : EncodedLength.Statement (.set_1_B) :=
  (rfl : lengthOf 0xCB = 2)
theorem EncodedLength.set_1_C : EncodedLength.Statement (.set_1_C) :=
  (rfl : lengthOf 0xCB = 2)
theorem EncodedLength.set_1_D : EncodedLength.Statement (.set_1_D) :=
  (rfl : lengthOf 0xCB = 2)
theorem EncodedLength.set_1_E : EncodedLength.Statement (.set_1_E) :=
  (rfl : lengthOf 0xCB = 2)
theorem EncodedLength.set_1_H : EncodedLength.Statement (.set_1_H) :=
  (rfl : lengthOf 0xCB = 2)
theorem EncodedLength.set_1_L : EncodedLength.Statement (.set_1_L) :=
  (rfl : lengthOf 0xCB = 2)
theorem EncodedLength.set_1_atHL : EncodedLength.Statement (.set_1_atHL) :=
  (rfl : lengthOf 0xCB = 2)
theorem EncodedLength.set_1_A : EncodedLength.Statement (.set_1_A) :=
  (rfl : lengthOf 0xCB = 2)
theorem EncodedLength.set_2_B : EncodedLength.Statement (.set_2_B) :=
  (rfl : lengthOf 0xCB = 2)
theorem EncodedLength.set_2_C : EncodedLength.Statement (.set_2_C) :=
  (rfl : lengthOf 0xCB = 2)
theorem EncodedLength.set_2_D : EncodedLength.Statement (.set_2_D) :=
  (rfl : lengthOf 0xCB = 2)
theorem EncodedLength.set_2_E : EncodedLength.Statement (.set_2_E) :=
  (rfl : lengthOf 0xCB = 2)
theorem EncodedLength.set_2_H : EncodedLength.Statement (.set_2_H) :=
  (rfl : lengthOf 0xCB = 2)
theorem EncodedLength.set_2_L : EncodedLength.Statement (.set_2_L) :=
  (rfl : lengthOf 0xCB = 2)
theorem EncodedLength.set_2_atHL : EncodedLength.Statement (.set_2_atHL) :=
  (rfl : lengthOf 0xCB = 2)
theorem EncodedLength.set_2_A : EncodedLength.Statement (.set_2_A) :=
  (rfl : lengthOf 0xCB = 2)
theorem EncodedLength.set_3_B : EncodedLength.Statement (.set_3_B) :=
  (rfl : lengthOf 0xCB = 2)
theorem EncodedLength.set_3_C : EncodedLength.Statement (.set_3_C) :=
  (rfl : lengthOf 0xCB = 2)
theorem EncodedLength.set_3_D : EncodedLength.Statement (.set_3_D) :=
  (rfl : lengthOf 0xCB = 2)
theorem EncodedLength.set_3_E : EncodedLength.Statement (.set_3_E) :=
  (rfl : lengthOf 0xCB = 2)
theorem EncodedLength.set_3_H : EncodedLength.Statement (.set_3_H) :=
  (rfl : lengthOf 0xCB = 2)
theorem EncodedLength.set_3_L : EncodedLength.Statement (.set_3_L) :=
  (rfl : lengthOf 0xCB = 2)
theorem EncodedLength.set_3_atHL : EncodedLength.Statement (.set_3_atHL) :=
  (rfl : lengthOf 0xCB = 2)
theorem EncodedLength.set_3_A : EncodedLength.Statement (.set_3_A) :=
  (rfl : lengthOf 0xCB = 2)
theorem EncodedLength.set_4_B : EncodedLength.Statement (.set_4_B) :=
  (rfl : lengthOf 0xCB = 2)
theorem EncodedLength.set_4_C : EncodedLength.Statement (.set_4_C) :=
  (rfl : lengthOf 0xCB = 2)
theorem EncodedLength.set_4_D : EncodedLength.Statement (.set_4_D) :=
  (rfl : lengthOf 0xCB = 2)
theorem EncodedLength.set_4_E : EncodedLength.Statement (.set_4_E) :=
  (rfl : lengthOf 0xCB = 2)
theorem EncodedLength.set_4_H : EncodedLength.Statement (.set_4_H) :=
  (rfl : lengthOf 0xCB = 2)
theorem EncodedLength.set_4_L : EncodedLength.Statement (.set_4_L) :=
  (rfl : lengthOf 0xCB = 2)
theorem EncodedLength.set_4_atHL : EncodedLength.Statement (.set_4_atHL) :=
  (rfl : lengthOf 0xCB = 2)
theorem EncodedLength.set_4_A : EncodedLength.Statement (.set_4_A) :=
  (rfl : lengthOf 0xCB = 2)
theorem EncodedLength.set_5_B : EncodedLength.Statement (.set_5_B) :=
  (rfl : lengthOf 0xCB = 2)
theorem EncodedLength.set_5_C : EncodedLength.Statement (.set_5_C) :=
  (rfl : lengthOf 0xCB = 2)
theorem EncodedLength.set_5_D : EncodedLength.Statement (.set_5_D) :=
  (rfl : lengthOf 0xCB = 2)
theorem EncodedLength.set_5_E : EncodedLength.Statement (.set_5_E) :=
  (rfl : lengthOf 0xCB = 2)
theorem EncodedLength.set_5_H : EncodedLength.Statement (.set_5_H) :=
  (rfl : lengthOf 0xCB = 2)
theorem EncodedLength.set_5_L : EncodedLength.Statement (.set_5_L) :=
  (rfl : lengthOf 0xCB = 2)
theorem EncodedLength.set_5_atHL : EncodedLength.Statement (.set_5_atHL) :=
  (rfl : lengthOf 0xCB = 2)
theorem EncodedLength.set_5_A : EncodedLength.Statement (.set_5_A) :=
  (rfl : lengthOf 0xCB = 2)
theorem EncodedLength.set_6_B : EncodedLength.Statement (.set_6_B) :=
  (rfl : lengthOf 0xCB = 2)
theorem EncodedLength.set_6_C : EncodedLength.Statement (.set_6_C) :=
  (rfl : lengthOf 0xCB = 2)
theorem EncodedLength.set_6_D : EncodedLength.Statement (.set_6_D) :=
  (rfl : lengthOf 0xCB = 2)
theorem EncodedLength.set_6_E : EncodedLength.Statement (.set_6_E) :=
  (rfl : lengthOf 0xCB = 2)
theorem EncodedLength.set_6_H : EncodedLength.Statement (.set_6_H) :=
  (rfl : lengthOf 0xCB = 2)
theorem EncodedLength.set_6_L : EncodedLength.Statement (.set_6_L) :=
  (rfl : lengthOf 0xCB = 2)
theorem EncodedLength.set_6_atHL : EncodedLength.Statement (.set_6_atHL) :=
  (rfl : lengthOf 0xCB = 2)
theorem EncodedLength.set_6_A : EncodedLength.Statement (.set_6_A) :=
  (rfl : lengthOf 0xCB = 2)
theorem EncodedLength.set_7_B : EncodedLength.Statement (.set_7_B) :=
  (rfl : lengthOf 0xCB = 2)
theorem EncodedLength.set_7_C : EncodedLength.Statement (.set_7_C) :=
  (rfl : lengthOf 0xCB = 2)
theorem EncodedLength.set_7_D : EncodedLength.Statement (.set_7_D) :=
  (rfl : lengthOf 0xCB = 2)
theorem EncodedLength.set_7_E : EncodedLength.Statement (.set_7_E) :=
  (rfl : lengthOf 0xCB = 2)
theorem EncodedLength.set_7_H : EncodedLength.Statement (.set_7_H) :=
  (rfl : lengthOf 0xCB = 2)
theorem EncodedLength.set_7_L : EncodedLength.Statement (.set_7_L) :=
  (rfl : lengthOf 0xCB = 2)
theorem EncodedLength.set_7_atHL : EncodedLength.Statement (.set_7_atHL) :=
  (rfl : lengthOf 0xCB = 2)
theorem EncodedLength.set_7_A : EncodedLength.Statement (.set_7_A) :=
  (rfl : lengthOf 0xCB = 2)

end Sys2Proof.Laws
end

