-- ==== Sys2Proof/Laws/Step.lean ====
section
/-! SUPPORT. Everything a processor step and a system step can do, and which interrupt is chosen. -/

namespace Sys2Proof.Machine

/-! ### Which interrupt is chosen (60_exceptions.md R310) -/

theorem State.pending_bit (s : State) {n : Nat} (h : n < 5) :
    s.pending.getLsbD n = (s.ie.getLsbD n && s.ifr.getLsbD n) := by
  have : (0x1F : Byte).getLsbD n = true := by
    have : n = 0 ∨ n = 1 ∨ n = 2 ∨ n = 3 ∨ n = 4 := by omega
    rcases this with h | h | h | h | h <;> subst h <;> rfl
  unfold State.pending
  rw [BitVec.getLsbD_and, BitVec.getLsbD_and, this, Bool.and_true]

theorem State.pending_high (s : State) {n : Nat} (h : 5 ≤ n) : s.pending.getLsbD n = false := by
  have : (0x1F : Byte).getLsbD n = false := by
    by_cases h8 : n < 8
    · have : n = 5 ∨ n = 6 ∨ n = 7 := by omega
      rcases this with h | h | h <;> subst h <;> rfl
    · exact BitVec.getLsbD_of_ge _ _ (Nat.not_lt.1 h8)
  unfold State.pending
  rw [BitVec.getLsbD_and, this, Bool.and_false]

/-- Nothing is chosen exactly when no bit is set. -/
theorem State.pending_eq_zero (s : State) : s.pending = 0 ↔ ∀ n, n < 5 → s.pending.getLsbD n = false := by
  constructor
  · intro h n _
    rw [h]
    simp
  · intro h
    refine BitVec.eq_of_getLsbD_eq fun n _ => ?_
    rw [show (0 : Byte).getLsbD n = false by simp]
    by_cases h5 : n < 5
    · exact h n h5
    · exact s.pending_high (Nat.not_lt.1 h5)

theorem selectKind_eq_none {p : Byte} : selectKind p = none ↔ ∀ n, n < 5 → p.getLsbD n = false := by
  unfold selectKind bit
  constructor
  · intro h n hn
    have : n = 0 ∨ n = 1 ∨ n = 2 ∨ n = 3 ∨ n = 4 := by omega
    revert h
    rcases this with h | h | h | h | h <;> subst h <;>
      generalize p.getLsbD 0 = b0, p.getLsbD 1 = b1, p.getLsbD 2 = b2, p.getLsbD 3 = b3, p.getLsbD 4 = b4 <;>
      revert b0 b1 b2 b3 b4 <;> decide
  · intro h
    simp only [h 0 (by decide), h 1 (by decide), h 2 (by decide), h 3 (by decide), h 4 (by decide)]
    rfl

/-- The chosen kind is the lowest set bit. -/
theorem selectKind_eq_some {p : Byte} {k : IntKind} :
    selectKind p = some k ↔ p.getLsbD k.number = true ∧ ∀ n, n < k.number → p.getLsbD n = false := by
  have low : ∀ m, m ≤ 4 → ((∀ n, n < m → p.getLsbD n = false) ↔
      (0 < m → p.getLsbD 0 = false) ∧ (1 < m → p.getLsbD 1 = false) ∧ (2 < m → p.getLsbD 2 = false) ∧
        (3 < m → p.getLsbD 3 = false)) := by
    intro m hm
    constructor
    · intro h
      exact ⟨h 0, h 1, h 2, h 3⟩
    · rintro ⟨h0, h1, h2, h3⟩ n hn
      have : n = 0 ∨ n = 1 ∨ n = 2 ∨ n = 3 := by omega
      rcases this with h | h | h | h <;> subst h
      · exact h0 hn
      · exact h1 hn
      · exact h2 hn
      · exact h3 hn
  rw [low _ (by cases k <;> decide)]
  unfold selectKind bit
  cases k <;> simp only [IntKind.number] <;>
    generalize p.getLsbD 0 = b0, p.getLsbD 1 = b1, p.getLsbD 2 = b2, p.getLsbD 3 = b3, p.getLsbD 4 = b4 <;>
    cases b0 <;> cases b1 <;> cases b2 <;> cases b3 <;> cases b4 <;> simp

/-! ### The processor step (R300, R317) -/

/-- An execution answers a state that the decoded instruction makes, with its cost unless Fatal was raised. -/
theorem executeOne_eq (s : State) :
    ∃ t, exec s.fetched (s.afterFetch s.fetched) = .next t ∧
      executeOne s = .next (t, if t.fault.isSome then none else some (cost s.fetched t.branchTaken)) := by
  obtain ⟨t, ht, -⟩ := exec_effect s.fetched (s.afterFetch s.fetched)
  exact ⟨t, ht, by unfold executeOne; simp only [ht]⟩

/-- A processor step idles, services one interrupt, or executes one instruction. -/
theorem cpuTick_cases (s : State) :
    (s.halted = true ∧ s.pending = 0 ∧ cpuTick s = .next (s, some haltIdleCycles)) ∨
    (∃ k, s.ime = true ∧ selectKind s.pending = some k ∧
      cpuTick s = .next ({ s with halted := false }.service k, some intServiceCycles)) ∨
    (¬(s.halted = true ∧ s.pending = 0) ∧ (s.ime = true → selectKind s.pending = none) ∧
      cpuTick s = executeOne { s with halted := false }) := by
  unfold cpuTick
  by_cases idle : s.halted = true ∧ s.pending = 0
  · exact .inl ⟨idle.1, idle.2, if_pos (by simp [idle.1, idle.2])⟩
  · rw [if_neg (by simpa using idle)]
    cases hi : s.ime with
    | false => exact .inr (.inr ⟨idle, by simp, by simp⟩)
    | true =>
      cases hk : selectKind s.pending with
      | none => exact .inr (.inr ⟨idle, fun _ => rfl, by simp⟩)
      | some k => exact .inr (.inl ⟨k, rfl, rfl, by simp⟩)

/-! ### The system step (R370) -/

/-- A faulted state is its own next state. -/
theorem step_faulted {s : State} (h : s.fault.isSome = true) : step s = .next s := if_pos h

/-- After a processor step with a cost come the display step and the controller hook. -/
theorem step_running {s t : State} {n : Nat} (hf : s.fault = none) (h : cpuTick s = .next (t, some n)) :
    step s = .next (t.afterCpu n) := by
  unfold step sysStep
  simp [hf, h]

/-- After a Fatal comes nothing. -/
theorem step_fatal {s t : State} (hf : s.fault = none) (h : cpuTick s = .next (t, none)) : step s = .next t := by
  unfold step sysStep
  simp [hf, h]

/-- Every system step answers a next state, by one of five ways. -/
theorem step_cases (s : State) :
    (s.fault.isSome = true ∧ step s = .next s) ∨
    (s.fault = none ∧ s.halted = true ∧ s.pending = 0 ∧ step s = .next (s.afterCpu haltIdleCycles)) ∨
    (∃ k, s.fault = none ∧ s.ime = true ∧ selectKind s.pending = some k ∧
      step s = .next (({ s with halted := false }.service k).afterCpu intServiceCycles)) ∨
    (∃ i t, s.fault = none ∧ exec i ({ s with halted := false }.afterFetch i) = .next t ∧ t.fault = none ∧
      step s = .next (t.afterCpu (cost i t.branchTaken))) ∨
    ∃ i t, s.fault = none ∧ exec i ({ s with halted := false }.afterFetch i) = .next t ∧ t.fault.isSome = true ∧
      step s = .next t := by
  by_cases hf : s.fault = none
  · rcases cpuTick_cases s with ⟨h, hp, e⟩ | ⟨k, hi, hk, e⟩ | ⟨-, -, e⟩
    · exact .inr (.inl ⟨hf, h, hp, step_running hf e⟩)
    · exact .inr (.inr (.inl ⟨k, hf, hi, hk, step_running hf e⟩))
    · obtain ⟨t, ht, eo⟩ := executeOne_eq { s with halted := false }
      by_cases hft : t.fault = none
      · rw [hft] at eo
        exact .inr (.inr (.inr (.inl ⟨_, t, hf, ht, hft, step_running hf (e.trans eo)⟩)))
      · have hft : t.fault.isSome = true := Option.isSome_iff_ne_none.2 hft
        rw [if_pos hft] at eo
        exact .inr (.inr (.inr (.inr ⟨_, t, hf, ht, hft, step_fatal hf (e.trans eo)⟩)))
  · have hf : s.fault.isSome = true := Option.isSome_iff_ne_none.2 hf
    exact .inl ⟨hf, step_faulted hf⟩

end Sys2Proof.Machine
end

