-- ==== Sys2Proof/Tests/Slice0.lean ====
section
/-! SUPPORT. Tests of the model: ill-formed parameters are refused; words written out from 30_encoding.md decode to
their instructions; vectors of 95_test_vectors.md, each named by its id there; and a witness for the hypotheses of each
statement. Every expected result comes from the spec. -/

namespace Sys2Proof.Tests

open Sys2Proof.Machine Sys2Proof.Claims

set_option maxRecDepth 4000

/-! ## Helpers -/

/-- The registers of CART_LAUNCH (70_reset_and_hazards.md R383). -/
def regs0 : Regs := { a := 0, f := 0, b := 0, c := 0, d := 0, e := 0, h := 0, l := 0, sp := 0xFFFE, pc := 0x0100 }

/-- CART_LAUNCH with a program at 0x0100, these registers and these bytes stored on the bus. -/
def start (program : List Byte) (r : Regs) (cells : List (Word × Byte)) : State :=
  cells.foldl (fun s cell => s.busWrite cell.1 cell.2) { State.cartLaunch ResetParams.zero program with regs := r }

/-- After one processor step: the registers, the bytes at these addresses, and the cost. -/
def outcome (s : State) (addresses : List Word) : Option (Regs × List Byte × Nat) :=
  match cpuTick s with
  | .next (t, some n) => some (t.regs, addresses.map t.busRead, n)
  | .next (_, none) => none
  | .fault _ => none
  | .refused _ => none

/-- A field after one system step. -/
def after {α : Type} (s : State) (f : State → α) : Option α :=
  match step s with
  | .next t => some (f t)
  | .fault _ => none
  | .refused _ => none

/-- What a display vector shows. -/
structure Shown where
  mode : Mode
  ly : Byte
  acc : Nat
  stat : Byte
  ifr : Byte
  paints : Nat
  deriving DecidableEq, Repr

/-- The display state after a display step. -/
def display (s : State) (cycles : Nat) : Shown :=
  let t := s.dispTick cycles
  ⟨t.lcd.mode, t.lcd.ly, t.lcd.acc, t.lcd.stat, t.ifr, t.sink.paints⟩

/-- What `reaches` says for a flat cartridge. -/
theorem not_reaches_of_flat {s : State} {image : Memory} (h : s.cart = .flat image) {b a : Word}
    (no : ¬(a = b ∨ ((0xE000 ≤ b.toNat ∧ b.toNat ≤ 0xFDFF) ∧ a.toNat + 0x2000 = b.toNat) ∨
      ((0xE000 ≤ a.toNat ∧ a.toNat ≤ 0xFDFF) ∧ b.toNat + 0x2000 = a.toNat) ∨
      (b = 0xFF46 ∧ 0xFE00 ≤ a.toNat ∧ a.toNat ≤ 0xFE9F) ∨ (b = 0xFF50 ∧ a.toNat ≤ 0xFF))) : ¬reaches s b a := by
  rintro (r | r | r | r | r | ⟨⟨x, hx⟩, -⟩)
  · exact no (.inl r)
  · exact no (.inr (.inl r))
  · exact no (.inr (.inr (.inl r)))
  · exact no (.inr (.inr (.inr (.inl r))))
  · exact no (.inr (.inr (.inr (.inr r))))
  · rw [h] at hx
    cases hx

/-! ## Ill-formed parameters are refused -/

theorem test_boot_rom_past_its_window_refused : WellFormed.bootRom [(0x100, 0x31)] = false := by decide

theorem test_boot_rom_out_of_order_refused : WellFormed.bootRom [(2, 0x31), (1, 0xFE)] = false := by decide

theorem test_cartridge_past_its_window_refused : WellFormed.cartridge (.flat [(0x8000, 0x01)]) = false := by decide

theorem test_init_mem_listing_zero_refused : WellFormed.initMem [(0xC000, 0x00)] = false := by decide

theorem test_init_mem_repeated_address_refused : WellFormed.initMem [(0xC000, 1), (0xC000, 2)] = false := by decide

theorem test_reset_flags_low_nibble_refused : WellFormed.resetRegs { regs0 with f := 0x01 } = false := by decide

theorem test_params_refuse_each_part :
    WellFormed.params ResetParams.zero = true ∧
    WellFormed.params { ResetParams.zero with bootRom := [(0x100, 1)] } = false ∧
    WellFormed.params { ResetParams.zero with cart := .flat [(0x8000, 1)] } = false ∧
    WellFormed.params { ResetParams.zero with initMem := [(0x10000, 1)] } = false ∧
    WellFormed.params { ResetParams.zero with regs := { regs0 with f := 0x0F } } = false := by decide

/-! ## Words written out from 30_encoding.md R116 and R120 -/

/-- R140, R141, R142, R143: `01 yyy zzz`, `00 yyy 110`, `01 yyy 110`, `01 110 zzz`. -/
theorem test_words_byte_loads :
    decode 0b01111000 0 0 = .ld_A_B ∧ decode 0b01011101 0 0 = .ld_E_L ∧ decode 0b00101110 0x5A 0 = .ld_L_d8 0x5A ∧
    decode 0b01001110 0 0 = .ld_C_atHL ∧ decode 0b01110100 0 0 = .ld_atHL_H ∧
    decode 0b00110110 0x7F 0 = .ld_atHL_d8 0x7F := by decide

/-- R145 to R156. -/
theorem test_words_accumulator_loads :
    decode 0x0A 0 0 = .ld_A_atBC ∧ decode 0x12 0 0 = .ld_atDE_A ∧ decode 0xFA 0x10 0xC0 = .ld_A_atA16 0xC010 ∧
    decode 0xEA 0x46 0xFF = .ld_atA16_A 0xFF46 ∧ decode 0xF0 0x44 0 = .ldh_A_atA8 0x44 ∧
    decode 0xE0 0xFF 0 = .ldh_atA8_A 0xFF ∧ decode 0xF2 0 0 = .ld_A_atC ∧ decode 0xE2 0 0 = .ld_atC_A ∧
    decode 0x22 0 0 = .ld_atHLinc_A ∧ decode 0x3A 0 0 = .ld_A_atHLdec := by decide

/-- R157 to R164: `00 pp 0001`, `11 pp 0101`, `11 pp 0001`, and the words of their own. -/
theorem test_words_pair_loads :
    decode 0b00110001 0xFE 0xFF = .ld_SP_d16 0xFFFE ∧ decode 0b00010001 0x34 0x12 = .ld_DE_d16 0x1234 ∧
    decode 0b11110101 0 0 = .push_AF ∧ decode 0b11000001 0 0 = .pop_BC ∧ decode 0xF8 0x08 0 = .ld_HL_SPe8 0x08 ∧
    decode 0xF9 0 0 = .ld_SP_HL ∧ decode 0x08 0x00 0xC1 = .ld_atA16_SP 0xC100 := by decide

/-- R180, R191, R193: `10 aaa zzz`, `11 aaa 110`, `00 yyy 100`, `00 yyy 101`. -/
theorem test_words_alu8 :
    decode 0b10000000 0 0 = .add_A_B ∧ decode 0b10001110 0 0 = .adc_A_atHL ∧ decode 0b10011111 0 0 = .sbc_A_A ∧
    decode 0b10101101 0 0 = .xor_L ∧ decode 0b11110110 0x0F 0 = .or_d8 0x0F ∧ decode 0b11111110 0x40 0 = .cp_d8 0x40 ∧
    decode 0b00110100 0 0 = .inc_atHL ∧ decode 0b00001101 0 0 = .dec_C ∧ decode 0x27 0 0 = .daa := by decide

/-- R211 to R214: `00 pp 1001`, `00 pp 0011`, `00 pp 1011`. -/
theorem test_words_alu16 :
    decode 0b00111001 0 0 = .add_HL_SP ∧ decode 0b00100011 0 0 = .inc_HL ∧ decode 0b00001011 0 0 = .dec_BC ∧
    decode 0xE8 0x02 0 = .add_SP_e8 0x02 := by decide

/-- R229 to R240: 0xCB, then `00 yyy zzz`, `01 bbb zzz`, `10 bbb zzz`, `11 bbb zzz`. -/
theorem test_words_cb :
    decode 0xCB 0b00000110 0 = .rlc_atHL ∧ decode 0xCB 0b00011010 0 = .rr_D ∧ decode 0xCB 0b00110111 0 = .swap_A ∧
    decode 0xCB 0b01111100 0 = .bit_7_H ∧ decode 0xCB 0b10000111 0 = .res_0_A ∧ decode 0xCB 0b11011110 0 = .set_3_atHL ∧
    decode 0xCB 0b11001011 0 = .set_1_E := by decide

/-- R250 to R260: `110 cc 010`, `001 cc 000`, `110 cc 100`, `110 cc 000`, `11 ttt 111`. -/
theorem test_words_control :
    decode 0b11010010 0x00 0x02 = .jp_NC_a16 0x0200 ∧ decode 0b00111000 0x10 0 = .jr_C_e8 0x10 ∧
    decode 0b11001100 0x00 0x20 = .call_Z_a16 0x2000 ∧ decode 0b11000000 0 0 = .ret_NZ ∧
    decode 0b11101111 0 0 = .rst_28H ∧ decode 0xE9 0 0 = .jp_HL ∧ decode 0xD9 0 0 = .reti := by decide

/-- R275 to R280. -/
theorem test_words_system :
    decode 0x00 0 0 = .nop ∧ decode 0x10 0x55 0 = .stop 0x55 ∧ decode 0x76 0 0 = .halt ∧ decode 0xF3 0 0 = .di ∧
    decode 0xFB 0 0 = .ei ∧ decode 0xED 0 0 = .illegal_ED := by decide

/-- R110: a word cut short, and no word at all, are refused by name. -/
theorem test_short_words_refused :
    decodeBytes [] = .error .noBytes ∧ decodeBytes [0xCB] = .error (.truncated 0xCB) ∧
    decodeBytes [0x3E] = .error (.truncated 0x3E) ∧ decodeBytes [0xC3, 0x50] = .error (.truncated 0xC3) := by decide

/-- The table's words: a primary row, and a CB row as `(byte0 << 8) | byte1` (R116) and first byte lowest. -/
theorem test_table_words :
    decodeTableWord 8 0x3C = some .inc_A ∧ decodeTableWord 8 0x01 = some (.ld_BC_d16 0) ∧
    decodeTableWord 16 0xCBC7 = some .set_0_A ∧ decodeTableWord 16 0xC7CB = some .set_0_A := by decide

/-- A placed word is what the next step runs, at reset and in a halted state. -/
theorem test_placed_words_run :
    after (State.reset.withFetchWord 8 0x3C) (fun t => (t.regs.a, t.regs.pc)) = some (0x01, 0x0001) ∧
    after (State.reset.withFetchWord 16 0xCBC7) (fun t => (t.regs.a, t.regs.pc)) = some (0x01, 0x0002) ∧
    after ({ State.reset with halted := true, regs := { regs0 with pc := 0xFF44 } }.withFetchWord 8 0x3C)
      (fun t => (t.regs.a, t.regs.pc)) = some (0x01, 0xC001) := by decide

/-! ## Instruction vectors (95_test_vectors.md L2) -/

/-- V5, R142. -/
theorem test_v5 :
    outcome (start [0x66] { regs0 with h := 0xC0, l := 0x10 } [(0xC010, 0x9C)]) [] =
      some ({ regs0 with h := 0x9C, l := 0x10, pc := 0x0101 }, [], 8) := by decide

/-- V7, R143. -/
theorem test_v7 :
    outcome (start [0x75] { regs0 with h := 0xC0, l := 0x21 } []) [0xC021] =
      some ({ regs0 with h := 0xC0, l := 0x21, pc := 0x0101 }, [0x21], 8) := by decide

/-- V8, R144. -/
theorem test_v8 :
    outcome (start [0x36, 0xA5] { regs0 with h := 0xE0, l := 0x30 } []) [0xC030] =
      some ({ regs0 with h := 0xE0, l := 0x30, pc := 0x0102 }, [0xA5], 12) := by decide

/-- V10, R145. -/
theorem test_v10 :
    outcome (start [0x1A] { regs0 with d := 0xA0 } []) [] =
      some ({ regs0 with d := 0xA0, a := 0xFF, pc := 0x0101 }, [], 8) := by decide

/-- V11, R146. -/
theorem test_v11 :
    outcome (start [0x12] { regs0 with a := 0x42, d := 0xFE, e := 0xB0 } []) [0xFEB0] =
      some ({ regs0 with a := 0x42, d := 0xFE, e := 0xB0, pc := 0x0101 }, [0xFF], 8) := by decide

/-- V13, R148. -/
theorem test_v13 :
    outcome (start [0xEA, 0xFF, 0xFF] { regs0 with a := 0x1F } []) [0xFFFF] =
      some ({ regs0 with a := 0x1F, pc := 0x0103 }, [0x1F], 16) := by decide

/-- V15, R149. -/
theorem test_v15 :
    outcome (start [0xF0, 0x46] regs0 []) [] =
      some ({ regs0 with a := 0xFF, pc := 0x0102 }, [], 12) := by decide

/-- V16, R150. -/
theorem test_v16 :
    outcome (start [0xE0, 0x0F] { regs0 with a := 0xE5 } []) [0xFF0F] =
      some ({ regs0 with a := 0xE5, pc := 0x0102 }, [0xE5], 12) := by decide

/-- V17, R151. -/
theorem test_v17 :
    outcome (start [0xF2] { regs0 with c := 0x80 } [(0xFF80, 0x3C)]) [] =
      some ({ regs0 with c := 0x80, a := 0x3C, pc := 0x0101 }, [], 8) := by decide

/-- V19, R152. -/
theorem test_v19 :
    outcome (start [0xE2] { regs0 with a := 0xFF, c := 0x41 } []) [0xFF41] =
      some ({ regs0 with a := 0xFF, c := 0x41, pc := 0x0101 }, [0xFA], 8) := by decide

/-- V20, R153. -/
theorem test_v20 :
    outcome (start [0x22] { regs0 with a := 0x11, h := 0xC0, l := 0xFF } []) [0xC0FF] =
      some ({ regs0 with a := 0x11, h := 0xC1, pc := 0x0101 }, [0x11], 8) := by decide

/-- V23, R156. -/
theorem test_v23 :
    outcome (start [0x3A] regs0 []) [] =
      some ({ regs0 with h := 0xFF, l := 0xFF, pc := 0x0101 }, [], 8) := by decide

/-- V24, R157. -/
theorem test_v24 :
    outcome (start [0x01, 0x34, 0x12] regs0 []) [] =
      some ({ regs0 with b := 0x12, c := 0x34, pc := 0x0103 }, [], 12) := by decide

/-- V26, R158. -/
theorem test_v26 :
    outcome (start [0xF8, 0x01] { regs0 with sp := 0x00FF } []) [] =
      some ({ regs0 with sp := 0x00FF, h := 0x01, pc := 0x0102, f := 0x30 }, [], 12) := by decide

/-- V28, R158. -/
theorem test_v28 :
    outcome (start [0xF8, 0xFF] { regs0 with sp := 0x0001 } []) [] =
      some ({ regs0 with sp := 0x0001, pc := 0x0102, f := 0x30 }, [], 12) := by decide

/-- V29, R159. -/
theorem test_v29 :
    outcome (start [0xF9] { regs0 with h := 0xD0 } []) [] =
      some ({ regs0 with h := 0xD0, sp := 0xD000, pc := 0x0101 }, [], 8) := by decide

/-- V30, R164. -/
theorem test_v30 :
    outcome (start [0x08, 0x00, 0xC0] { regs0 with sp := 0xABCD } []) [0xC000, 0xC001] =
      some ({ regs0 with sp := 0xABCD, pc := 0x0103 }, [0xCD, 0xAB], 20) := by decide

/-- V31, R162. -/
theorem test_v31 :
    outcome (start [0xC5] { regs0 with b := 0x12, c := 0x34 } []) [0xFFFD, 0xFFFC] =
      some ({ regs0 with b := 0x12, c := 0x34, sp := 0xFFFC, pc := 0x0101 }, [0x12, 0x34], 16) := by decide

/-- V33, R163. -/
theorem test_v33 :
    outcome (start [0xF1] { regs0 with sp := 0xC000 } [(0xC000, 0xFF), (0xC001, 0x12)]) [] =
      some ({ regs0 with sp := 0xC002, a := 0x12, pc := 0x0101, f := 0xF0 }, [], 12) := by decide

/-- V34, R163. -/
theorem test_v34 :
    outcome (start [0xC1] { regs0 with sp := 0xFFFF } []) [] =
      some ({ regs0 with sp := 0x0001, pc := 0x0101 }, [], 12) := by decide

/-- V35, R183. -/
theorem test_v35 :
    outcome (start [0x80] { regs0 with a := 0x0F, b := 0x01 } []) [] =
      some ({ regs0 with a := 0x10, b := 0x01, pc := 0x0101, f := 0x20 }, [], 4) := by decide

/-- V38, R184. -/
theorem test_v38 :
    outcome (start [0x89] { regs0 with a := 0x0E, c := 0x01, f := 0x10 } []) [] =
      some ({ regs0 with a := 0x10, c := 0x01, f := 0x20, pc := 0x0101 }, [], 4) := by decide

/-- V41, R185. -/
theorem test_v41 :
    outcome (start [0x97] { regs0 with a := 0x5A } []) [] =
      some ({ regs0 with pc := 0x0101, f := 0xC0 }, [], 4) := by decide

/-- V43, R186. -/
theorem test_v43 :
    outcome (start [0xDE, 0x00] { regs0 with f := 0x10 } []) [] =
      some ({ regs0 with a := 0xFF, f := 0x70, pc := 0x0102 }, [], 8) := by decide

/-- V44, R187. -/
theorem test_v44 :
    outcome (start [0xA0] { regs0 with a := 0xF0, b := 0x0F } []) [] =
      some ({ regs0 with b := 0x0F, pc := 0x0101, f := 0xA0 }, [], 4) := by decide

/-- V45, R188. -/
theorem test_v45 :
    outcome (start [0xAF] { regs0 with a := 0x77, f := 0x70 } []) [] =
      some ({ regs0 with f := 0x80, pc := 0x0101 }, [], 4) := by decide

/-- V46, R189. -/
theorem test_v46 :
    outcome (start [0xB6] { regs0 with a := 0x01, h := 0xC0 } [(0xC000, 0x80)]) [] =
      some ({ regs0 with a := 0x81, h := 0xC0, pc := 0x0101 }, [], 8) := by decide

/-- V48, R190. -/
theorem test_v48 :
    outcome (start [0xB8] { regs0 with a := 0x05, b := 0x06 } []) [] =
      some ({ regs0 with a := 0x05, b := 0x06, pc := 0x0101, f := 0x70 }, [], 4) := by decide

/-- V50, R191. -/
theorem test_v50 :
    outcome (start [0x3C] { regs0 with a := 0xFF, f := 0x10 } []) [] =
      some ({ regs0 with f := 0xB0, pc := 0x0101 }, [], 4) := by decide

/-- V51, R192. -/
theorem test_v51 :
    outcome (start [0x34] { regs0 with h := 0xC0 } [(0xC000, 0xFF)]) [0xC000] =
      some ({ regs0 with h := 0xC0, pc := 0x0101, f := 0xA0 }, [0x00], 12) := by decide

/-- V53, R193. -/
theorem test_v53 :
    outcome (start [0x0D] { regs0 with c := 0x01, f := 0x10 } []) [] =
      some ({ regs0 with f := 0xD0, pc := 0x0101 }, [], 4) := by decide

/-- V55, R194. -/
theorem test_v55 :
    outcome (start [0x35] { regs0 with h := 0xC0 } [(0xC000, 0x00)]) [0xC000] =
      some ({ regs0 with h := 0xC0, pc := 0x0101, f := 0x60 }, [0xFF], 12) := by decide

/-- V56, R195. -/
theorem test_v56 :
    outcome (start [0x27] { regs0 with a := 0x7D } []) [] =
      some ({ regs0 with a := 0x83, pc := 0x0101 }, [], 4) := by decide

/-- V58, R195. -/
theorem test_v58 :
    outcome (start [0x27] { regs0 with f := 0x30 } []) [] =
      some ({ regs0 with a := 0x66, f := 0x10, pc := 0x0101 }, [], 4) := by decide

/-- V60, R195. -/
theorem test_v60 :
    outcome (start [0x27] { regs0 with a := 0xF0, f := 0x50 } []) [] =
      some ({ regs0 with a := 0x90, f := 0x50, pc := 0x0101 }, [], 4) := by decide

/-- V61, R196. -/
theorem test_v61 :
    outcome (start [0x2F] { regs0 with a := 0x35 } []) [] =
      some ({ regs0 with a := 0xCA, pc := 0x0101, f := 0x60 }, [], 4) := by decide

/-- V62, R197. -/
theorem test_v62 :
    outcome (start [0x37] { regs0 with f := 0xE0 } []) [] =
      some ({ regs0 with f := 0x90, pc := 0x0101 }, [], 4) := by decide

/-- V64, R198. -/
theorem test_v64 :
    outcome (start [0x3F] { regs0 with f := 0x80 } []) [] =
      some ({ regs0 with f := 0x90, pc := 0x0101 }, [], 4) := by decide

/-- V65, R211. -/
theorem test_v65 :
    outcome (start [0x09] { regs0 with h := 0x0F, l := 0xFF, c := 0x01 } []) [] =
      some ({ regs0 with h := 0x10, c := 0x01, pc := 0x0101, f := 0x20 }, [], 8) := by decide

/-- V66, R211. -/
theorem test_v66 :
    outcome (start [0x29] { regs0 with h := 0x80, f := 0x80 } []) [] =
      some ({ regs0 with f := 0x10, pc := 0x0101 }, [], 8) := by decide

/-- V68, R212. -/
theorem test_v68 :
    outcome (start [0x03] { regs0 with b := 0xFF, c := 0xFF, f := 0xF0 } []) [] =
      some ({ regs0 with f := 0xF0, pc := 0x0101 }, [], 8) := by decide

/-- V70, R213. -/
theorem test_v70 :
    outcome (start [0x1B] regs0 []) [] =
      some ({ regs0 with d := 0xFF, e := 0xFF, pc := 0x0101 }, [], 8) := by decide

/-- V73, R214. -/
theorem test_v73 :
    outcome (start [0xE8, 0x80] { regs0 with sp := 0x0100 } []) [] =
      some ({ regs0 with sp := 0x0080, pc := 0x0102 }, [], 16) := by decide

/-- V76, R225. -/
theorem test_v76 :
    outcome (start [0x07] { regs0 with f := 0x80 } []) [] =
      some ({ regs0 with pc := 0x0101 }, [], 4) := by decide

/-- V77, R226. -/
theorem test_v77 :
    outcome (start [0x0F] { regs0 with a := 0x01 } []) [] =
      some ({ regs0 with a := 0x80, pc := 0x0101, f := 0x10 }, [], 4) := by decide

/-- V78, R227. -/
theorem test_v78 :
    outcome (start [0x17] { regs0 with a := 0x80 } []) [] =
      some ({ regs0 with f := 0x10, pc := 0x0101 }, [], 4) := by decide

/-- V79, R228. -/
theorem test_v79 :
    outcome (start [0x1F] { regs0 with a := 0x01, f := 0x10 } []) [] =
      some ({ regs0 with a := 0x80, f := 0x10, pc := 0x0101 }, [], 4) := by decide

/-- V80, R230. -/
theorem test_v80 :
    outcome (start [0xCB, 0x00] { regs0 with b := 0x85 } []) [] =
      some ({ regs0 with b := 0x0B, pc := 0x0102, f := 0x10 }, [], 8) := by decide

/-- V83, R232. -/
theorem test_v83 :
    outcome (start [0xCB, 0x11] { regs0 with c := 0x80 } []) [] =
      some ({ regs0 with f := 0x90, pc := 0x0102 }, [], 8) := by decide

/-- V84, R233. -/
theorem test_v84 :
    outcome (start [0xCB, 0x1A] { regs0 with d := 0x01, f := 0x10 } []) [] =
      some ({ regs0 with d := 0x80, f := 0x10, pc := 0x0102 }, [], 8) := by decide

/-- V85, R234. -/
theorem test_v85 :
    outcome (start [0xCB, 0x23] { regs0 with e := 0xC0 } []) [] =
      some ({ regs0 with e := 0x80, pc := 0x0102, f := 0x10 }, [], 8) := by decide

/-- V86, R235. -/
theorem test_v86 :
    outcome (start [0xCB, 0x2C] { regs0 with h := 0x81 } []) [] =
      some ({ regs0 with h := 0xC0, pc := 0x0102, f := 0x10 }, [], 8) := by decide

/-- V88, R236. -/
theorem test_v88 :
    outcome (start [0xCB, 0x37] { regs0 with a := 0xF0, f := 0x10 } []) [] =
      some ({ regs0 with a := 0x0F, pc := 0x0102 }, [], 8) := by decide

/-- V90, R237. -/
theorem test_v90 :
    outcome (start [0xCB, 0x38] { regs0 with b := 0x8F } []) [] =
      some ({ regs0 with b := 0x47, pc := 0x0102, f := 0x10 }, [], 8) := by decide

/-- V91, R238. -/
theorem test_v91 :
    outcome (start [0xCB, 0x7C] { regs0 with h := 0x80, f := 0x10 } []) [] =
      some ({ regs0 with h := 0x80, f := 0x30, pc := 0x0102 }, [], 8) := by decide

/-- V93, R238. -/
theorem test_v93 :
    outcome (start [0xCB, 0x46] { regs0 with h := 0xC0 } [(0xC000, 0x01)]) [] =
      some ({ regs0 with h := 0xC0, pc := 0x0102, f := 0x20 }, [], 12) := by decide

/-- V95, R239. -/
theorem test_v95 :
    outcome (start [0xCB, 0xBE] { regs0 with h := 0xC0 } [(0xC000, 0xFF)]) [0xC000] =
      some ({ regs0 with h := 0xC0, pc := 0x0102 }, [0x7F], 16) := by decide

/-- V97, R240. -/
theorem test_v97 :
    outcome (start [0xCB, 0xFE] { regs0 with h := 0xC0 } [(0xC000, 0x00)]) [0xC000] =
      some ({ regs0 with h := 0xC0, pc := 0x0102 }, [0x80], 16) := by decide

/-- V98, R250. -/
theorem test_v98 :
    outcome (start [0xC3, 0x00, 0x02] regs0 []) [] =
      some ({ regs0 with pc := 0x0200 }, [], 16) := by decide

/-- V99, R251. -/
theorem test_v99 :
    outcome (start [0xC2, 0x00, 0x02] regs0 []) [] =
      some ({ regs0 with pc := 0x0200 }, [], 16) := by decide

/-- V100, R251. -/
theorem test_v100 :
    outcome (start [0xC2, 0x00, 0x02] { regs0 with f := 0x80 } []) [] =
      some ({ regs0 with f := 0x80, pc := 0x0103 }, [], 12) := by decide

/-- V102, R252. -/
theorem test_v102 :
    outcome (start [0xE9] { regs0 with h := 0x12, l := 0x34 } []) [] =
      some ({ regs0 with h := 0x12, l := 0x34, pc := 0x1234 }, [], 4) := by decide

/-- V103, R253. -/
theorem test_v103 :
    outcome (start [0x18, 0xFE] regs0 []) [] =
      some (regs0, [], 12) := by decide

/-- V107, R254. -/
theorem test_v107 :
    outcome (start [0x30, 0x80] regs0 []) [] =
      some ({ regs0 with pc := 0x0082 }, [], 12) := by decide

/-- V106, R254. -/
theorem test_v106 :
    outcome (start [0x38, 0x10] regs0 []) [] =
      some ({ regs0 with pc := 0x0102 }, [], 8) := by decide

/-- V108, R255. -/
theorem test_v108 :
    outcome (start [0xCD, 0x00, 0x20] regs0 []) [0xFFFD, 0xFFFC] =
      some ({ regs0 with sp := 0xFFFC, pc := 0x2000 }, [0x01, 0x03], 24) := by decide

/-- V109, R256. -/
theorem test_v109 :
    outcome (start [0xC4, 0x00, 0x20] { regs0 with f := 0x80 } []) [] =
      some ({ regs0 with f := 0x80, pc := 0x0103 }, [], 12) := by decide

/-- V110, R256. -/
theorem test_v110 :
    outcome (start [0xCC, 0x00, 0x20] { regs0 with f := 0x80 } []) [0xFFFD, 0xFFFC] =
      some ({ regs0 with f := 0x80, sp := 0xFFFC, pc := 0x2000 }, [0x01, 0x03], 24) := by decide

/-- V111, R257. -/
theorem test_v111 :
    outcome (start [0xC9] { regs0 with sp := 0xC000 } [(0xC000, 0x34), (0xC001, 0x12)]) [] =
      some ({ regs0 with sp := 0xC002, pc := 0x1234 }, [], 16) := by decide

/-- V112, R258. -/
theorem test_v112 :
    outcome (start [0xD0] { regs0 with sp := 0xC000 } [(0xC000, 0x34), (0xC001, 0x12)]) [] =
      some ({ regs0 with sp := 0xC002, pc := 0x1234 }, [], 20) := by decide

/-- V113, R258. -/
theorem test_v113 :
    outcome (start [0xD8] { regs0 with sp := 0xC000 } [(0xC000, 0x34), (0xC001, 0x12)]) [] =
      some ({ regs0 with sp := 0xC000, pc := 0x0101 }, [], 8) := by decide

/-- V114, R259. -/
theorem test_v114 :
    outcome (start [0xD9] { regs0 with sp := 0xC000 } [(0xC000, 0x34), (0xC001, 0x12)]) [] =
      some ({ regs0 with sp := 0xC002, pc := 0x1234 }, [], 16) := by decide

/-- V115, R260. -/
theorem test_v115 :
    outcome (start [0xFF] regs0 []) [0xFFFD, 0xFFFC] =
      some ({ regs0 with sp := 0xFFFC, pc := 0x0038 }, [0x01, 0x01], 16) := by decide

/-- V118, R275. -/
theorem test_v118 :
    outcome (start [0x00] regs0 []) [] =
      some ({ regs0 with pc := 0x0101 }, [], 4) := by decide

/-- V119, V121, V122, V123: HALT, STOP, DI and EI. -/
theorem test_v119_to_v123 :
    after (start [0x76] regs0 []) (fun t => (t.halted, t.regs.pc)) = some (true, 0x0101) ∧
    after (start [0x10, 0x00] regs0 []) (fun t => (t.halted, t.regs.pc)) = some (true, 0x0102) ∧
    after { start [0xF3] regs0 [] with ime := true } (fun t => t.ime) = some false ∧
    after (start [0xFB] regs0 []) (fun t => t.ime) = some true := by decide

/-- V124, V125 and I12: the fault mark, no display step, and nothing changes after it. -/
theorem test_v124_v125 :
    after (start [0xD3] regs0 []) (fun t => (t.fault, t.regs.pc, t.lcd.acc, t.ctrl.ticks)) =
      some (some { cause := .unimplementedOpcode, opcode := 0xD3, prefixed := false, address := 0x0100 }, 0x0101, 0, 0) ∧
    after (start [0xFD] { regs0 with a := 0x12 } []) (fun t => (t.fault.isSome, t.regs.a)) = some (true, 0x12) ∧
    (after (start [0xDD, 0x00] regs0 []) id).bind (fun t => after t (fun u => (u.regs.pc, u.lcd.acc))) =
      some (0x0101, 0) := by decide

/-! ## The bus (L2.5) -/

/-- B1 to B8 and B13. -/
theorem test_bus_vectors :
    let s := start [] regs0 []
    (s.busWrite 0xC010 0x5A).busRead 0xC010 = 0x5A ∧ (s.busWrite 0xE010 0xA7).busRead 0xC010 = 0xA7 ∧
    (s.busWrite 0xFEB0 0x12).busRead 0xFEB0 = 0xFF ∧ s.busRead 0xA000 = 0xFF ∧ (s.busWrite 0xBFFF 0).busRead 0xBFFF = 0xFF ∧
    (s.busWrite 0xFF44 0x09).busRead 0xFF44 = 0x00 ∧ (s.busWrite 0xFF41 0xFF).busRead 0xFF41 = 0xFA ∧
    (s.busWrite 0xFFFF 0xE1).busRead 0xFFFF = 0xE1 ∧ (s.busWrite 0xFF0F 0xFF).busRead 0xFF0F = 0xFF ∧
    (s.busWrite 0xFF03 0x5C).busRead 0xFF03 = 0x5C ∧ (s.busWrite 0xFF80 0x3C).busRead 0xFF80 = 0x3C ∧
    (s.busWrite 0xFFFE 0x01).busRead 0xFFFE = 0x01 := by decide

/-- B10 and the DMA register of B9: the copy reads its source on the bus. -/
theorem test_dma_vector :
    let s := start [] regs0 [(0xC005, 0x42), (0xFF46, 0xE0)]
    s.busRead 0xFE05 = 0x42 ∧ s.busRead 0xFF46 = 0xFF := by decide

/-- B11 and B12: the boot window and its latch. -/
theorem test_boot_window_vector :
    let s := { State.reset with bootRom := [(0x10, 0x31)], cart := .flat [(0x10, 0x77)] }
    s.busRead 0x0010 = 0x31 ∧ (s.busWrite 0xFF50 0x01).busRead 0x0010 = 0x77 ∧ s.busWrite 0x0010 0x99 = s := by decide

/-! ## Interrupts and halt (L2.6) -/

/-- I1, I2, I3: the lowest kind, its vector, its acknowledgement and the pushed PC. -/
theorem test_interrupt_selection :
    after { start [] regs0 [(0xFFFF, 0x1F), (0xFF0F, 0x1F)] with ime := true }
      (fun t => (t.regs.pc, t.regs.sp, t.busRead 0xFFFD, t.busRead 0xFFFC, t.ime, t.ifr)) =
      some (0x0040, 0xFFFC, 0x01, 0x00, false, 0x1E) ∧
    after { start [] regs0 [(0xFFFF, 0x1F), (0xFF0F, 0x14)] with ime := true } (fun t => (t.regs.pc, t.ifr)) =
      some (0x0050, 0x10) ∧
    after { start [] regs0 [(0xFFFF, 0x1F), (0xFF0F, 0x10)] with ime := true } (fun t => (t.regs.pc, t.ifr)) =
      some (0x0060, 0x00) := by decide

/-- I4, I5, I6: no service when IE masks the kind, when IME is 0, or for bits 7 to 5. -/
theorem test_no_interrupt :
    after { start [] regs0 [(0xFFFF, 0x04), (0xFF0F, 0x01)] with ime := true } (fun t => t.regs.pc) = some 0x0101 ∧
    after (start [] regs0 [(0xFFFF, 0x1F), (0xFF0F, 0x1F)]) (fun t => (t.regs.pc, t.ifr)) = some (0x0101, 0x1F) ∧
    after { start [] regs0 [(0xFFFF, 0xFF), (0xFF0F, 0xE0)] with ime := true } (fun t => t.regs.pc) = some 0x0101 := by
  decide

/-- I7, I8, I9: idle, waking without service, and waking with service. -/
theorem test_halt_vectors :
    outcome { start [0x3C] regs0 [(0xFF0F, 0x1F)] with halted := true } [] = some (regs0, [], 4) ∧
    after { start [0x3C] regs0 [(0xFFFF, 0x01), (0xFF0F, 0x01)] with halted := true }
      (fun t => (t.halted, t.regs.a, t.regs.pc, t.ifr)) = some (false, 0x01, 0x0101, 0x01) ∧
    after { start [0x3C] regs0 [(0xFFFF, 0x02), (0xFF0F, 0x03)] with halted := true, ime := true }
      (fun t => (t.halted, t.regs.a, t.regs.pc, t.ifr)) = some (false, 0x00, 0x0048, 0x01) := by decide

/-- I10, I11: a push that lands on IE or IF. -/
theorem test_push_on_interrupt_registers :
    after { start [] { regs0 with sp := 0x0000 } [(0xFFFF, 0x1F), (0xFF0F, 0x04)] with ime := true }
      (fun t => (t.regs.pc, t.ie, t.busRead 0xFFFE, t.regs.sp, t.ifr)) = some (0x0050, 0x01, 0x00, 0xFFFE, 0x00) ∧
    after { start [] { regs0 with sp := 0xFF11, pc := 0x0234 } [(0xFFFF, 0x01), (0xFF0F, 0x01)] with ime := true }
      (fun t => (t.regs.pc, t.ifr, t.busRead 0xFF10, t.regs.sp)) = some (0x0040, 0x34, 0x02, 0xFF0F) := by decide

/-- Reset vectors R1, R2 and R3's third step: what is fetched from BOOT_ROM and from the cartridge. -/
theorem test_reset_vectors :
    after { State.reset with bootRom := [(0, 0xD3)] } (fun t => (t.fault.isSome, t.regs.pc)) = some (true, 0x0001) ∧
    outcome State.reset [] = some ({ regs0 with sp := 0, pc := 0x0001 }, [], 4) ∧
    after { State.reset.busWrite 0xFF50 0x01 with
        bootRom := [(0, 0x3E), (1, 0x01), (2, 0xE0), (3, 0x50)], cart := .flat [(4, 0x3C)]
        regs := { regs0 with a := 0x01, pc := 0x0004 } } (fun t => (t.regs.a, t.regs.pc)) = some (0x02, 0x0005) := by
  decide

/-! ## The display (L2.7, L2.8, L2.9) -/

/-- T1 to T5: the phases of the first line, in single budgets and in one call. -/
theorem test_display_first_line :
    display State.reset 79 = ⟨.oam, 0, 79, 0x02, 0, 0⟩ ∧ display State.reset 80 = ⟨.vram, 0, 0, 0x03, 0, 0⟩ ∧
    display State.reset 252 = ⟨.hblank, 0, 0, 0x04, 0, 0⟩ ∧ display State.reset 456 = ⟨.oam, 1, 0, 0x06, 0, 0⟩ := by decide

/-- T8 to T11: the coincidence and HBLANK requests. -/
theorem test_display_requests :
    let s := State.reset
    display { s with lcd := { s.lcd with stat := 0x42 } } 252 = ⟨.hblank, 0, 0, 0x44, 0x02, 0⟩ ∧
    display { s with lcd := { s.lcd with stat := 0x0A } } 252 = ⟨.hblank, 0, 0, 0x0C, 0x02, 0⟩ ∧
    display { s with lcd := { s.lcd with stat := 0x42, lyc := 1 } } 252 = ⟨.hblank, 0, 0, 0x40, 0x00, 0⟩ ∧
    display { s with lcd := { s.lcd with stat := 0x42, lyc := 1 } } 708 = ⟨.hblank, 1, 0, 0x44, 0x02, 0⟩ := by decide

/-- T13's last cycle (65663, then 1): VBLANK and its request. -/
theorem test_display_vblank :
    let s := State.reset
    display { s with lcd := { s.lcd with stat := 0x00, mode := .hblank, ly := 143, acc := 203 } } 1 =
      ⟨.vblank, 144, 0, 0x01, 0x01, 0⟩ := by decide

/-- T7's last line: one paint, and the next frame. -/
theorem test_display_end_of_frame :
    let s := State.reset
    display { s with lcd := { s.lcd with stat := 0x01, mode := .vblank, ly := 153 } } 456 = ⟨.oam, 0, 0, 0x02, 0x00, 1⟩ := by
  decide

/-- G1: columns 0, 4 and 8 of an unsigned tile. -/
theorem test_background_unsigned :
    let s := start [] regs0 [(0xFF40, 0x10), (0xFF47, 0xE4), (0x9800, 0x01), (0x8010, 0xF0), (0x8011, 0x0F)]
    let t := s.renderBgLine 0
    (t.lcd.fb.get 0 0, t.lcd.fb.get 0 4, t.lcd.fb.get 0 8, t.lcd.bgi.get 0 4) = (1, 2, 0, 2) := by decide

/-- G2: columns 0, 8, 16 and 24 with signed indexes 0x00, 0x80, 0x7F and 0xFF. -/
theorem test_background_signed :
    let s := start [] regs0
      [(0xFF40, 0x00), (0xFF47, 0xE4), (0x9801, 0x80), (0x9802, 0x7F), (0x9803, 0xFF), (0x9000, 0xFF), (0x9001, 0xFF),
        (0x8800, 0xFF), (0x97F1, 0xFF), (0x8FF0, 0xAA), (0x8FF1, 0x55)]
    [s.bgColour 0 0, s.bgColour 0 8, s.bgColour 0 16, s.bgColour 0 24] = [3, 1, 2, 1] := by decide

/-- G3: scrolled by (0xFC, 0xFF) the line shows row 31, column 31 of the map, tile row 7, pixels 4 to 7. -/
theorem test_background_scrolled :
    let s := start [] regs0
      [(0xFF40, 0x18), (0xFF47, 0xE4), (0xFF42, 0xFF), (0xFF43, 0xFC), (0x802E, 0x0F), (0x9FFF, 0x02)]
    [s.bgColour 0 0, s.bgColour 0 3, s.bgColour 0 4] = [1, 1, 0] := by decide

/-- The start of the sprite vectors: tile 3 row 0 is (C0, 80), and OAM entry 0 as given; FB and BGI are 0 here. -/
def sprite (lcdc y x flags : Byte) : State :=
  start [] regs0
    [(0xFF40, lcdc), (0xFF48, 0xE4), (0xFF49, 0x1B), (0x8030, 0xC0), (0x8031, 0x80), (0xFE00, y), (0xFE01, x),
      (0xFE02, 0x03), (0xFE03, flags)]

/-- The entry's shades at some columns of a line. -/
def shades (s : State) (line : Nat) (columns : List Nat) : List Shade :=
  let e := s.oamEntry 0
  if e.skipped then columns.map fun _ => 0
  else columns.map fun x =>
    let fb := s.drawSpritePixel e (line + 16 - e.posY) (x + 8 - e.posX) s.lcd.fb
    fb.get line x

/-- S1, S2, S3, S4: plain, flip_x, flip_y and the other palette. -/
theorem test_sprite_flips_and_palettes :
    shades (sprite 0x10 16 8 0x00) 0 [0, 1, 2] = [3, 1, 0] ∧ shades (sprite 0x10 16 8 0x20) 0 [5, 6, 7] = [0, 1, 3] ∧
    shades (sprite 0x10 16 8 0x40) 7 [0, 1] = [3, 1] ∧ shades (sprite 0x10 16 8 0x10) 0 [0, 1] = [0, 2] := by decide

/-- S6, S7, S8, S9, S10, S11: the edges of the screen. -/
theorem test_sprite_edges :
    shades (sprite 0x10 16 0 0x00) 0 [0] = [0] ∧ shades (sprite 0x10 16 1 0x20) 0 [0] = [3] ∧
    shades (sprite 0x10 16 167 0x00) 0 [159] = [3] ∧ shades (sprite 0x10 16 168 0x00) 0 [159] = [0] ∧
    shades (sprite 0x10 160 8 0x00) 143 [0] = [0] ∧ shades (sprite 0x10 159 8 0x00) 143 [0, 1] = [3, 1] := by decide

/-- S14, S15: 8x16 sprites take rows 8 to 15 from the next tile, and flip_y mirrors all 16 rows. -/
theorem test_sprite_tall :
    let tall (flags : Byte) := start [] regs0
      [(0xFF40, 0x14), (0xFF48, 0xE4), (0x8040, 0x80), (0x8041, 0x80), (0xFE00, 16), (0xFE01, 8), (0xFE02, 0x03),
        (0xFE03, flags)]
    shades (tall 0x00) 8 [0] = [3] ∧ shades (tall 0x00) 0 [0] = [0] ∧ shades (tall 0x40) 7 [0] = [3] ∧
    shades (tall 0x40) 8 [0] = [0] := by decide

/-! ## Witnesses: the hypotheses of each statement are met by a concrete state -/

theorem witness_EncodeInvertsDecode : decodeBytes [0x3E, 0x05, 0x3C, 0x76] = .ok (.ld_A_d8 0x05, [0x3C, 0x76]) := by decide

/-- Both branches: an illegal slot and another instruction, from a state with no fault mark. -/
theorem witness_FaultCausesAreTheElevenSlots :
    State.reset.fault = none ∧ exec (decode 0xFC 0 0) State.reset = .next (State.reset.raiseFatal 0xFC) ∧
    exec (decode 0x00 0 0) State.reset = .next State.reset ∧ (0xFC : Byte) ∈ illegalSlots.map Prod.snd ∧
    (0x00 : Byte) ∉ illegalSlots.map Prod.snd := ⟨rfl, rfl, rfl, by decide, by decide⟩

theorem witness_PairsAreViewsOfRegisters : Reg8.b ≠ Reg8.a := by decide

theorem witness_LoadRegisterFromRegisterOrImmediate :
    Reg8.b = Reg8.b ∧ exec (Instr.ldRegReg .b .b) State.reset = .next State.reset := ⟨rfl, rfl⟩

/-- 99 + 99 with carry, and 0 - 99 with borrow: the boundary values. -/
theorem witness_DecimalAdjustGivesPackedBcd :
    let s := fun a => start [] { regs0 with a := a, f := 0x10 } []
    (s 0x99).regs.a = bcd 99 ∧ (s 0x00).regs.a = bcd 0 ∧
    (∃ t u, exec (.adc_A_d8 (bcd 99)) (s 0x99) = .next t ∧ exec .daa t = .next u ∧ u.regs.a = 0x99 ∧ carry u = true) ∧
    ∃ t u, exec (.sbc_A_d8 (bcd 99)) (s 0x00) = .next t ∧ exec .daa t = .next u ∧ u.regs.a = 0x00 ∧ carry u = true :=
  ⟨by decide, by decide, ⟨_, _, rfl, rfl, by decide, by decide⟩, ⟨_, _, rfl, rfl, by decide, by decide⟩⟩

/-- servicesNext of RETI and EI: a pending enabled kind. -/
theorem witness_servicesNext : lowestPending (start [] regs0 [(0xFFFF, 0x01), (0xFF0F, 0x01)]) 0 := by
  unfold lowestPending pendingKind
  decide

/-- A running machine at an illegal opcode. -/
theorem witness_IllegalOpcodeRaisesFatal :
    let s := start [0xD3] regs0 []
    (Instr.illegal_D3, 0xD3) ∈ illegalSlots ∧ s.fault = none ∧ s.busRead s.regs.pc = 0xD3 ∧
    ¬(s.halted = true ∧ nonePending s) ∧ (s.ime = true → nonePending s) := by
  unfold nonePending pendingKind
  decide

/-- One address for each entry of the decode table, at the edges of its range. -/
theorem witness_BusDecodeTable :
    (∀ n ∈ [0xFF80, 0xFFFE, 0xFF50, 0xFF10, 0xFF3F, 0xFF04, 0xFF07, 0xFF01, 0xFF02, 0xFE00, 0xFE9F, 0xC000, 0xDFFF,
        0x8000, 0x9FFF, 0xFF03, 0xFF08, 0xFF0E, 0xFF4C, 0xFF4F, 0xFF51, 0xFF7F], plainStorage n) ∧
    (∀ n ∈ [0xE000, 0xFDFF], echoRam n) ∧
    (∀ n ∈ [0xFFFF, 0xFF0F, 0xFF00, 0xFEA0, 0xFEFF, 0xA000, 0xBFFF, 0x0100, 0x7FFF, 0x0000, 0x00FF, 0xFF40, 0xFF4B],
      ¬plainStorage n ∧ ¬echoRam n) ∧
    State.reset.mem.read 0xFF50 = 0 ∧ (start [] regs0 []).mem.read 0xFF50 ≠ 0 ∧
    (∃ x, (0xFF40, x) ∈ displayRead State.reset.lcd) ∧ (∃ x, (0xFF4B, x) ∈ displayRead State.reset.lcd) ∧
    ∃ d, (0xFF4B, d) ∈ displayWrite State.reset.lcd 7 := by
  refine ⟨?_, ?_, ?_, by decide, by decide, ⟨0, by simp [displayRead]; rfl⟩, ⟨0, by simp [displayRead]; rfl⟩,
    ⟨{ State.reset.lcd with wx := 7 }, by simp [displayWrite]⟩⟩
  · unfold plainStorage
    decide
  · unfold echoRam
    decide
  · unfold plainStorage echoRam
    decide

/-- The edges of plain storage and of echo RAM, and of the work RAM that has an echo. -/
theorem witness_StorageReadsBackThroughEveryAlias :
    State.reset.mem.wf = true ∧ (∀ a ∈ [(0x8000 : Word), 0xC000, 0xDDFF, 0xE000, 0xFDFF, 0xFE9F, 0xFF7F, 0xFFFE], storage a) ∧
    echoRam (0xE000 : Word).toNat ∧ echoRam (0xFDFF : Word).toNat := by
  refine ⟨by decide, fun a ha => ?_, by unfold echoRam; decide, by unfold echoRam; decide⟩
  simp only [List.mem_cons, List.not_mem_nil, or_false] at ha
  unfold storage plainStorage echoRam
  rcases ha with h | h | h | h | h | h | h | h <;> subst h <;> decide

/-- OAM's own page as the source of the copy. -/
theorem witness_OamDmaCopiesOnePage :
    let s := start [] regs0 [(0xFE00, 0x11), (0xFE9F, 0x22)]
    s.mem.wf = true ∧ (s.busWrite 0xFF46 0xFE).busRead 0xFE9F = 0x22 := by decide

/-- A neighbour, an address of another storage, and the DMA register's own neighbour are not reached. -/
theorem witness_BusWriteLeavesOtherAddresses :
    let s := start [] regs0 []
    s.mem.wf = true ∧ ¬reaches s 0xC000 0xC001 ∧ ¬reaches s 0xE000 0xC001 ∧ ¬reaches s 0xFF46 0xFEA0 ∧
    ¬reaches s 0xFF50 0x0100 ∧ ¬reaches s 0x2000 0x0000 ∧ reaches s 0xFF46 0xFE00 ∧ reaches s 0xE000 0xC000 := by
  have flat : (start [] regs0 []).cart = .flat [] := rfl
  exact ⟨by decide, not_reaches_of_flat flat (by decide), not_reaches_of_flat flat (by decide),
    not_reaches_of_flat flat (by decide), not_reaches_of_flat flat (by decide), not_reaches_of_flat flat (by decide),
    .inr (.inr (.inr (.inl (by decide)))), .inr (.inl ⟨by unfold echoRam; decide, by decide⟩)⟩

/-- A stack instruction, with an address its two bytes do not reach. -/
theorem witness_InstructionsStoreOnlyWhereTheySay :
    let s := start [] { regs0 with b := 0x12, c := 0x34 } []
    s.mem.wf = true ∧ (∃ t, exec .push_BC s = .next t) ∧ stores .push_BC s = [0xFFFD, 0xFFFC] ∧
    ∀ b ∈ stores .push_BC s, ¬reaches s b 0xFFFB := by
  refine ⟨by decide, ⟨_, rfl⟩, by decide, fun b hb => not_reaches_of_flat (image := []) rfl ?_⟩
  have : b ∈ [(0xFFFD : Word), 0xFFFC] := hb
  simp only [List.mem_cons, List.not_mem_nil, or_false] at this
  rcases this with h | h <;> subst h <;> decide

theorem witness_PopAfterPushRestores :
    let s := start [] { regs0 with a := 0x9A, f := 0xB0 } []
    s.mem.wf = true ∧ storage (s.regs.sp - 1) ∧ storage (s.regs.sp - 2) ∧
    ∃ t u, exec (Instr.push .af) s = .next t ∧ exec (Instr.pop .de) t = .next u ∧ u.regs.d = 0x9A ∧ u.regs.e = 0xB0 := by
  refine ⟨by decide, ?_, ?_, ⟨_, _, rfl, rfl, by decide, by decide⟩⟩ <;> unfold storage plainStorage echoRam <;> decide

theorem witness_InstructionsLeaveDisplayState : ∃ t, exec .ld_atHL_A State.reset = .next t := ⟨_, rfl⟩

/-- Each writer, and a conditional transfer whose condition holds. -/
theorem witness_ControlBitWriters :
    (∃ t, exec .ei State.reset = .next t ∧ t.ime = true) ∧ (∃ t, exec .halt State.reset = .next t ∧ t.halted = true) ∧
    holds .nz State.reset = true ∧ ∃ t, exec (Instr.retIf .nz) State.reset = .next t ∧ t.branchTaken = true :=
  ⟨⟨_, rfl, rfl⟩, ⟨_, rfl, rfl⟩, by decide, ⟨_, rfl, by decide⟩⟩

/-- NOP is none of the writers of the flags. -/
theorem witness_OtherInstructionsLeaveFlags :
    (∀ op o d, Instr.nop ≠ Instr.alu op o ∧ Instr.nop ≠ Instr.aluImm op d) ∧
    (∀ o, Instr.nop ≠ Instr.inc8 o ∧ Instr.nop ≠ Instr.dec8 o) ∧
    Instr.nop ∉ [Instr.daa, .cpl, .scf, .ccf, .rlca, .rrca, .rla, .rra, .pop_AF] ∧ (∀ p, Instr.nop ≠ Instr.addHL p) ∧
    (∀ e, Instr.nop ≠ .add_SP_e8 e ∧ Instr.nop ≠ .ld_HL_SPe8 e) ∧ (∀ op o, Instr.nop ≠ Instr.rotate op o) ∧
    (∀ b o, Instr.nop ≠ Instr.bitTest b o) ∧ exec .nop State.reset = .next State.reset := by
  have bits : ∀ i j : Instr, encode i ≠ encode j → i ≠ j := fun i j h e => h (congrArg encode e)
  refine ⟨fun op o d => ⟨bits _ _ ?_, bits _ _ ?_⟩, fun o => ⟨bits _ _ ?_, bits _ _ ?_⟩, by decide, fun p => bits _ _ ?_,
    fun e => ⟨nofun, nofun⟩, fun op o => bits _ _ ?_, fun b o => bits _ _ ?_, rfl⟩
  · cases op <;> cases o <;> first | decide | (rename_i r; cases r <;> decide)
  · cases op <;> exact nofun
  · cases o <;> first | decide | (rename_i r; cases r <;> decide)
  · cases o <;> first | decide | (rename_i r; cases r <;> decide)
  · cases p <;> decide
  · cases op <;> cases o <;> first | decide | (rename_i r; cases r <;> decide)
  · cases b <;> cases o <;> first | decide | (rename_i r; cases r <;> decide)

/-- The three cases: idle; each kind as the lowest; executing, awake and waking with IME = 0. -/
theorem witness_ProcessorStepIdlesServicesOrExecutes :
    let halted := { start [0x3C] regs0 [(0xFF0F, 0x1F)] with halted := true }
    let waking := { start [0x3C] regs0 [(0xFFFF, 0x01), (0xFF0F, 0x01)] with halted := true }
    nonePending halted ∧ (∀ k, k < 5 → lowestPending { State.reset with ime := true, ie := 0xFF, ifr := 0xFF <<< k } k) ∧
    ¬(waking.halted = true ∧ nonePending waking) ∧ waking.ime = false ∧
    decodeBytes (bytesAtPc waking) = .ok (.inc_A, [0x00, 0x00]) ∧ ∃ t, exec .inc_A (running waking .inc_A) = .next t := by
  refine ⟨?_, ?_, ?_, rfl, by decide, ⟨_, rfl⟩⟩
  · unfold nonePending pendingKind
    decide
  · intro k hk
    have : k = 0 ∨ k = 1 ∨ k = 2 ∨ k = 3 ∨ k = 4 := by omega
    unfold lowestPending pendingKind
    rcases this with h | h | h | h | h <;> subst h <;> decide
  · unfold nonePending pendingKind
    decide

/-- A faulted state, a processor step with a cost and one without. -/
theorem witness_SystemStepOrder :
    ((start [0xD3] regs0 []).raiseFatal 0xD3).fault ≠ none ∧ (∃ t, cpuTick (start [] regs0 []) = .next (t, some 4)) ∧
    ∃ t, cpuTick (start [0xD3] regs0 []) = .next (t, none) := ⟨nofun, ⟨_, rfl⟩, ⟨_, rfl⟩⟩

/-- An awake machine, and one that wakes with IME = 0. -/
theorem witness_StepRunsDecodedInstruction :
    let s := start [0xC3, 0x00, 0x02] regs0 []
    s.fault = none ∧ ¬(s.halted = true ∧ nonePending s) ∧ (s.ime = true → nonePending s) ∧
    decodeBytes (bytesAtPc s) = .ok (.jp_a16 0x0200, []) := by
  refine ⟨rfl, ?_, ?_, by decide⟩ <;> unfold nonePending pendingKind <;> decide

/-- Entries whose push lands on IE, on IF and on plain storage. -/
theorem witness_InterruptEntrySavesPcOnly :
    (∀ sp ∈ [(0x0000 : Word), 0x0001, 0xFF10, 0xFF11, 0xFFFE],
      let s := { start [] { regs0 with sp := sp } [(0xFFFF, 0x01), (0xFF0F, 0x01)] with ime := true }
      s.ime = true ∧ lowestPending s 0) ∧
    (start [] regs0 []).mem.wf = true ∧ storage ((0xFFFE : Word) - 1) ∧ storage ((0xFFFE : Word) - 2) := by
  refine ⟨fun sp h => ?_, by decide, by unfold storage plainStorage echoRam; decide,
    by unfold storage plainStorage echoRam; decide⟩
  simp only [List.mem_cons, List.not_mem_nil, or_false] at h
  unfold lowestPending pendingKind
  rcases h with h | h | h | h | h <;> subst h <;> decide

theorem witness_ReturnUndoesInterruptEntry :
    let s := { start [] regs0 [(0xFFFF, 0x01), (0xFF0F, 0x01)] with ime := true }
    s.mem.wf = true ∧ storage (s.regs.sp - 1) ∧ storage (s.regs.sp - 2) ∧ s.ime = true ∧
    ∃ u, exec .reti (serviced s 0) = .next u ∧ u.regs = s.regs := by
  refine ⟨by decide, ?_, ?_, rfl, ⟨_, rfl, by decide⟩⟩ <;> unfold storage plainStorage echoRam <;> decide

theorem witness_FinalStateIsKept :
    let s := { State.reset with halted := true, ifr := 0xFF }
    s.fault = none ∧ s.halted = true ∧ s.ie &&& 0x1F = 0 ∧ ∃ t, step s = .next t := ⟨rfl, rfl, by decide, ⟨_, rfl⟩⟩

theorem witness_InvariantKeptByEveryStep : Inv State.reset ∧ ∃ t, step State.reset = .next t :=
  ⟨⟨by decide, by decide, by decide, by decide, by decide, by decide, by decide, by decide⟩, ⟨_, rfl⟩⟩

theorem witness_InvariantHoldsAtReset : WellFormed.params ResetParams.zero = true := by decide

theorem witness_ResetValues :
    ({ ResetParams.zero with initMem := [(0xC000, 0x12), (0xFF50, 0x01)] } : ResetParams).initMem.wf = true := by decide

/-- One cycle below and at each budget. -/
theorem witness_DisplayStepLoop :
    (∀ m ∈ [Mode.oam, .vram, .hblank, .vblank],
      let s := { State.reset with lcd := { State.reset.lcd with mode := m } }
      s.lcd.acc + (budget m - 1) < budget s.lcd.mode ∧ budget s.lcd.mode ≤ s.lcd.acc + budget m) ∧
    State.reset.lcd.acc < budget State.reset.lcd.mode := by decide

/-- Reset, but in a mode, on a line, with LYC 143. -/
def onLine (m : Mode) (ly : Byte) : State :=
  { State.reset with lcd := { State.reset.lcd with mode := m, ly := ly, lyc := 143 } }

/-- What the end of that phase leaves: mode, LY, STAT, IF and the count of paints. -/
def phaseEnded (m : Mode) (ly : Byte) : Mode × Byte × Byte × Byte × Nat :=
  let t := (onLine m ly).endOfPhase
  (t.lcd.mode, t.lcd.ly, t.lcd.stat, t.ifr, t.sink.paints)

/-- Every mode, with LY at both ends of what a run reaches, where the clauses split, and at the edges no run reaches. -/
theorem witness_PhaseTransitions :
    (∀ m ∈ [Mode.oam, .vram, .hblank, .vblank], ∀ ly ∈ [(0 : Byte), 142, 143, 144, 152, 153, 255],
      (onLine m ly).lcd.mode = m) ∧
    phaseEnded .oam 0 = (.vram, 0, 0x03, 0, 0) ∧ phaseEnded .oam 143 = (.vram, 143, 0x03, 0, 0) ∧
    phaseEnded .vram 142 = (.hblank, 142, 0x00, 0, 0) ∧ phaseEnded .vram 143 = (.hblank, 143, 0x04, 0, 0) ∧
    phaseEnded .hblank 0 = (.oam, 1, 0x02, 0, 0) ∧ phaseEnded .hblank 142 = (.oam, 143, 0x02, 0, 0) ∧
    phaseEnded .hblank 143 = (.vblank, 144, 0x01, 0x01, 0) ∧ phaseEnded .hblank 144 = (.vblank, 145, 0x01, 0x01, 0) ∧
    phaseEnded .hblank 255 = (.oam, 0, 0x02, 0, 0) ∧ phaseEnded .vblank 144 = (.vblank, 145, 0x01, 0, 0) ∧
    phaseEnded .vblank 152 = (.vblank, 153, 0x01, 0, 0) ∧ phaseEnded .vblank 153 = (.oam, 0, 0x02, 0, 1) ∧
    phaseEnded .vblank 255 = (.vblank, 0, 0x01, 0, 0) := by
  refine ⟨?_, ?_, ?_, ?_, ?_, ?_, ?_, ?_, ?_, ?_, ?_, ?_, ?_, ?_⟩ <;> decide

theorem witness_FrameTakes70224Cycles :
    State.reset.lcd.mode = .oam ∧ State.reset.lcd.ly = 0 ∧ State.reset.lcd.acc = 0 := by decide

theorem witness_BackgroundLinePixels : 143 < 144 ∧ 159 < 160 := by decide

/-- No entry draws; the last of two entries draws (S13's overlap); the corner of the screen. -/
theorem witness_SpritePixels :
    let s := start [] regs0
      [(0xFF40, 0x10), (0xFF48, 0xE4), (0x8030, 0xC0), (0x8031, 0x80), (0x8040, 0x80), (0xFE00, 16), (0xFE01, 8),
        (0xFE02, 3), (0xFE04, 16), (0xFE05, 8), (0xFE06, 4)]
    spriteShade s 0 0 0 = some 3 ∧ spriteShade s 1 0 0 = some 1 ∧ (∀ j, j < 40 → 1 < j → spriteShade s j 0 0 = none) ∧
    spriteShade s 0 0 1 = some 1 ∧ spriteShade s 1 0 1 = none ∧ ∀ i, i < 40 → spriteShade s i 143 159 = none := by decide

end Sys2Proof.Tests
end

/-! SUPPORT. The machine's invariant, kept by everything a system step is made of (10_state.md R35, R53, R57;
60_exceptions.md R344, R370). -/

namespace Sys2Proof.Machine

/-! ### The invariant and the processor step -/

/-- STAT's mode field, from any mask that covers it. -/
theorem stat_modeField (v : Byte) : v &&& 0x03 = v &&& 0x07 &&& 0x03 := (BitVec.and_assoc v 0x07 0x03).symm

theorem Cartridge.Evolves.wellFormed {c c' : Cartridge} (h : c.Evolves c') (hc : WellFormed.cartridge c = true) :
    WellFormed.cartridge c' = true := by
  cases c with
  | flat image => rw [h.1 image rfl]; exact hc
  | external hidden => obtain ⟨hidden', e⟩ := h.2 hidden rfl; rw [e]; rfl

/-- What an instruction or an interrupt entry keeps is enough for the invariant. -/
theorem Inv.of_keeps {s t : State} (hs : Inv s) (k : Keeps s t) : Inv t where
  memory := k.wf hs.memory
  bootRom := by rw [k.bootRom]; exact hs.bootRom
  cartridge := k.cart.wellFormed hs.cartridge
  flagsLow := k.flagsLow hs.flagsLow
  statMode := by rw [stat_modeField, k.stat, ← stat_modeField, k.mode]; exact hs.statMode
  accBound := by rw [k.acc, k.mode]; exact hs.accBound
  visibleLine := by rw [k.ly, k.mode]; exact hs.visibleLine
  vblankLine := by rw [k.ly, k.mode]; exact hs.vblankLine

/-- Waking up touches nothing the invariant speaks of. -/
theorem Inv.awake {s : State} (hs : Inv s) : Inv { s with halted := false } :=
  hs.of_keeps (Keeps.front s _ _ _ _ _ id)

/-- A fetch moves PC, clears branch_taken and counts a draw: nothing the invariant speaks of. -/
theorem Inv.afterFetch {s : State} (hs : Inv s) (i : Instr) : Inv (s.afterFetch i) where
  memory := hs.memory
  bootRom := hs.bootRom
  cartridge := hs.cartridge
  flagsLow := hs.flagsLow
  statMode := hs.statMode
  accBound := hs.accBound
  visibleLine := hs.visibleLine
  vblankLine := hs.vblankLine

/-! ### The invariant and the display step -/

/-- The part of the invariant a phase's end must restore: STAT[1:0] is the mode's encoding, and LY lies on the mode's
lines. -/
structure Display.InPhase (d : Display) : Prop where
  statMode : d.stat &&& 0x03 = d.mode.code
  visibleLine : d.mode ≠ .vblank → d.ly.toNat < 144
  vblankLine : d.mode = .vblank → 144 ≤ d.ly.toNat ∧ d.ly.toNat ≤ 153

theorem Inv.inPhase {s : State} (hs : Inv s) : s.lcd.InPhase := ⟨hs.statMode, hs.visibleLine, hs.vblankLine⟩

/-- `set_mode` writes the mode's encoding, whatever STAT was (60_exceptions.md R346). -/
theorem State.setMode_statMode (s : State) (m : Mode) : (s.setMode m).lcd.stat &&& 0x03 = (s.setMode m).lcd.mode.code := by
  rw [State.setMode_lcd_stat, State.setMode_lcd_mode, BitVec.and_or_distrib_right, BitVec.and_assoc]
  cases m <;> simp [Mode.code]

/-- Entering a mode other than VBLANK on a visible line. -/
theorem State.setMode_inPhase_visible {s : State} {m : Mode} (hm : m ≠ .vblank) (hl : s.lcd.ly.toNat < 144) :
    (s.setMode m).lcd.InPhase :=
  ⟨s.setMode_statMode m, fun _ => hl, fun h => absurd h hm⟩

/-- Entering VBLANK, or staying in it, on one of its ten lines. -/
theorem State.setMode_inPhase_vblank {s : State} (hl : 144 ≤ s.lcd.ly.toNat ∧ s.lcd.ly.toNat ≤ 153) :
    (s.setMode .vblank).lcd.InPhase :=
  ⟨s.setMode_statMode .vblank, fun h => absurd rfl h, fun _ => hl⟩

/-- The end of VRAM leaves LY (R347). -/
theorem State.endOfVram_inPhase {s : State} (hl : s.lcd.ly.toNat < 144) : s.endOfVram.lcd.InPhase := by
  have keepsLy : ∀ (b : Bool) (t : State), (if b then t.request .lcdStat else t).lcd.ly = t.lcd.ly := by
    intro b t
    cases b <;> rfl
  refine State.setMode_inPhase_visible (by decide) ?_
  rw [keepsLy, State.setCoincidence_lcd_ly, keepsLy]
  exact hl

/-- The number of the line after one below 255. -/
theorem ly_succ_toNat {v : Byte} (h : v.toNat < 255) : (v + 1).toNat = v.toNat + 1 :=
  BitVec.toNat_add_of_lt (show v.toNat + 1 < 2 ^ 8 by omega)

/-- The end of HBLANK goes on to the next line: visible, or the first of VBLANK (R348). -/
theorem State.endOfHblank_inPhase {s : State} (hl : s.lcd.ly.toNat < 144) : s.endOfHblank.lcd.InPhase := by
  have next := ly_succ_toNat (v := s.lcd.ly) (by omega)
  unfold State.endOfHblank
  dsimp only
  split
  · next h => exact State.setMode_inPhase_visible (by decide) h
  · next h =>
    have h : ¬(s.lcd.ly + 1).toNat < 144 := h
    refine State.setMode_inPhase_vblank ?_
    show 144 ≤ (s.lcd.ly + 1).toNat ∧ (s.lcd.ly + 1).toNat ≤ 153
    omega

/-- The end of a VBLANK line goes on to the next one, or after line 153 to line 0 (R349, R350). -/
theorem State.endOfVblank_inPhase {s : State} (hl : 144 ≤ s.lcd.ly.toNat ∧ s.lcd.ly.toNat ≤ 153) :
    s.endOfVblank.lcd.InPhase := by
  have next := ly_succ_toNat (v := s.lcd.ly) (by omega)
  unfold State.endOfVblank
  dsimp only
  split
  · exact State.setMode_inPhase_visible (by decide) (show (0 : Byte).toNat < 144 by decide)
  · next h =>
    have h : (s.lcd.ly + 1).toNat ≠ 154 := fun e => h (BitVec.eq_of_toNat_eq e)
    refine State.setMode_inPhase_vblank ?_
    show 144 ≤ (s.lcd.ly + 1).toNat ∧ (s.lcd.ly + 1).toNat ≤ 153
    omega

/-- Every phase ends in the next phase, on one of that phase's lines (R343). -/
theorem State.endOfPhase_inPhase {s : State} (hs : s.lcd.InPhase) : s.endOfPhase.lcd.InPhase := by
  unfold State.endOfPhase
  split
  · next h => exact State.setMode_inPhase_visible (by decide) (hs.visibleLine (by simp [h]))
  · next h => exact State.endOfVram_inPhase (hs.visibleLine (by simp [h]))
  · next h => exact State.endOfHblank_inPhase (hs.visibleLine (by simp [h]))
  · next h => exact State.endOfVblank_inPhase (hs.vblankLine h)

theorem State.passPhase_inPhase {s : State} (hs : s.lcd.InPhase) : s.passPhase.lcd.InPhase :=
  State.endOfPhase_inPhase (s := s.setAcc _) ⟨hs.statMode, hs.visibleLine, hs.vblankLine⟩

/-- With fuel enough for the accumulator, the loop stops inside a phase: on its lines and below its budget (R344). -/
theorem dispLoop_inPhase {fuel : Nat} {s : State} (hs : s.lcd.InPhase) (hf : s.lcd.acc ≤ fuel) :
    (dispLoop fuel s).lcd.InPhase ∧ (dispLoop fuel s).lcd.acc < (dispLoop fuel s).lcd.mode.budget := by
  have pos := s.lcd.mode.budget_pos
  induction fuel generalizing s with
  | zero => rw [dispLoop_done 0 (by omega)]; exact ⟨hs, by omega⟩
  | succ fuel ih =>
    by_cases h : s.lcd.mode.budget ≤ s.lcd.acc
    · rw [dispLoop_pass fuel h]
      exact ih (State.passPhase_inPhase hs) (by rw [State.passPhase_acc]; omega) (Mode.budget_pos _)
    · rw [dispLoop_done _ (by omega)]
      exact ⟨hs, by omega⟩

/-- A display step of any length keeps the invariant. -/
theorem Inv.dispTick {s : State} (hs : Inv s) (cycles : Nat) : Inv (s.dispTick cycles) := by
  have inPhase : (s.setAcc (s.lcd.acc + cycles)).lcd.InPhase := ⟨hs.statMode, hs.visibleLine, hs.vblankLine⟩
  obtain ⟨hp, hacc⟩ := dispLoop_inPhase inPhase (Nat.le_refl _)
  have rest := (DisplayOnly.dispTick s cycles).rest
  exact
    { memory := (congrArg (·.mem.wf) rest).trans hs.memory
      bootRom := (congrArg (WellFormed.bootRom ·.bootRom) rest).trans hs.bootRom
      cartridge := (congrArg (WellFormed.cartridge ·.cart) rest).trans hs.cartridge
      flagsLow := (congrArg (·.regs.f &&& 0x0F) rest).trans hs.flagsLow
      statMode := hp.statMode
      accBound := hacc
      visibleLine := hp.visibleLine
      vblankLine := hp.vblankLine }

/-- The display step and the controller hook after a processor step keep the invariant. -/
theorem Inv.afterCpu {s : State} (hs : Inv s) (cycles : Nat) : Inv (s.afterCpu cycles) :=
  let h := hs.dispTick cycles
  ⟨h.memory, h.bootRom, h.cartridge, h.flagsLow, h.statMode, h.accBound, h.visibleLine, h.vblankLine⟩

/-! ### The invariant and the system step -/

/-- An instruction, fetched after waking up, keeps the invariant. -/
theorem Inv.exec {i : Instr} {s t : State} (hs : Inv s) (h : exec i ({ s with halted := false }.afterFetch i) = .next t) :
    Inv t := (hs.awake.afterFetch i).of_keeps (exec_keeps h)

/-- Every way a system step can go keeps the invariant. -/
theorem Inv.step {s t : State} (hs : Inv s) (h : step s = .next t) : Inv t := by
  rcases step_cases s with ⟨-, e⟩ | ⟨-, -, -, e⟩ | ⟨k, -, -, -, e⟩ | ⟨i, u, -, hu, -, e⟩ | ⟨i, u, -, hu, -, e⟩ <;>
    cases e.symm.trans h
  · exact hs
  · exact hs.afterCpu _
  · exact (hs.awake.of_keeps (Keeps.service _ k)).afterCpu _
  · exact (hs.exec hu).afterCpu _
  · exact hs.exec hu

/-- Settles O49: the processor step keeps the invariant by what every instruction and interrupt entry keeps, and the
display step by an induction on its loop, each pass of which ends one phase inside the next. -/
theorem invariantKeptByEveryStep : Obligations.InvariantKeptByEveryStep := fun _ _ hs h => hs.step h

end Sys2Proof.Machine

/-! SUPPORT. What the instructions write of IME, halted and branch_taken (10_state.md R38, R43, R44), of F (R36), and
the register pairs as views of the 8-bit registers (R32, R35). -/

namespace Sys2Proof.Machine

open Sys2Proof.Claims

/-! ### IME, halted and branch_taken -/

/-- The three control bits of `t` are those of `s`. -/
structure SameControl (s t : State) : Prop where
  ime : t.ime = s.ime
  halted : t.halted = s.halted
  branchTaken : t.branchTaken = s.branchTaken

theorem SameControl.refl (s : State) : SameControl s s := ⟨rfl, rfl, rfl⟩

theorem SameControl.trans {s t u : State} (h : SameControl s t) (h' : SameControl t u) : SameControl s u :=
  ⟨h'.ime.trans h.ime, h'.halted.trans h.halted, h'.branchTaken.trans h.branchTaken⟩

/-- Any write of the registers alone. -/
theorem SameControl.withRegs (s : State) (r : Regs) : SameControl s { s with regs := r } := ⟨rfl, rfl, rfl⟩

theorem SameControl.busWrite (s : State) (a : Word) (v : Byte) : SameControl s (s.busWrite a v) :=
  ⟨s.busWrite_ime a v, s.busWrite_halted a v, s.busWrite_branchTaken a v⟩

theorem SameControl.writeOperand (s : State) (o : Operand8) (v : Byte) : SameControl s (s.writeOperand o v) := by
  cases o with
  | reg n => exact SameControl.withRegs s _
  | atHL => exact SameControl.busWrite s _ v

theorem SameControl.writeBack (s : State) (o : Operand8) (r : AluOut) : SameControl s (s.writeBack o r) :=
  (SameControl.writeOperand s o r.res).trans (SameControl.withRegs _ _)

theorem SameControl.push16 (s : State) (v : Word) : SameControl s (s.push16 v) :=
  have ⟨ime, halted, branchTaken, _⟩ := s.push16_keeps v
  ⟨ime, halted, branchTaken⟩

theorem SameControl.call (a : Word) (s : State) : SameControl s (call a s) :=
  (SameControl.push16 s _).trans (SameControl.withRegs _ _)

/-- The instructions a condition guards (44_control.md R251, R254, R256, R258). -/
def Guarded (cc : Cond) (i : Instr) : Prop :=
  i = Instr.retIf cc ∨ ∃ a b, i = Instr.jpIf cc a ∨ i = Instr.jrIf cc b ∨ i = Instr.callIf cc a

theorem holds_eq_cond (cc : Cond) (s : State) : holds cc s = s.cond cc := by cases cc <;> rfl

/-- Everything an instruction can do to the control bits: nothing, or one of the four writes, with its writers. -/
inductive ControlWrite (i : Instr) (s t : State) : Prop
  | keeps (same : SameControl s t)
  | setsIme (writer : i = .ei ∨ i = .reti) (same : SameControl { s with ime := true } t)
  | clearsIme (writer : i = .di) (same : SameControl { s with ime := false } t)
  | halts (writer : i = .halt ∨ ∃ b, i = .stop b) (same : SameControl { s with halted := true } t)
  | takesBranch (writer : ∃ cc, holds cc s = true ∧ Guarded cc i) (same : SameControl s.takeBranch t)

/-- A guarded transfer changes nothing without its condition, and with it takes the branch. -/
theorem ControlWrite.guarded {cc : Cond} {i : Instr} (hi : Guarded cc i) {s u : State}
    (hu : SameControl s.takeBranch u) : ControlWrite i s (if s.cond cc then u else s) := by
  cases h : s.cond cc with
  | false => exact .keeps (SameControl.refl s)
  | true => exact .takesBranch ⟨cc, (holds_eq_cond cc s).trans h, hi⟩ hu

/-- Every instruction, by its shape. -/
theorem Effect.controlWrite {i : Instr} {s t : State} (h : Effect i s t) : ControlWrite i s t := by
  cases h
  case ldAtHLReg | ldAtHLImm | ldAtBCA | ldAtDEA | ldAtA16A | ldhAtA8A | ldAtCA =>
    exact .keeps (SameControl.busWrite _ _ _)
  case ldAtHLIncA | ldAtHLDecA => exact .keeps ((SameControl.busWrite _ _ _).trans (SameControl.withRegs _ _))
  case ldAtAddrSp => exact .keeps ((SameControl.busWrite _ _ _).trans (SameControl.busWrite _ _ _))
  case pushPair => exact .keeps (SameControl.push16 _ _)
  case alu op _ | aluImm op _ => cases op <;> exact .keeps ⟨rfl, rfl, rfl⟩
  case incOperand | decOperand => exact .keeps (SameControl.writeBack _ _ _)
  case rotate op _ => cases op <;> exact .keeps (SameControl.writeBack _ _ _)
  case resOperand | setOperand => exact .keeps (SameControl.writeOperand _ _ _)
  case call => exact .keeps (SameControl.call _ _)
  case restart => exact .keeps ((SameControl.push16 _ _).trans (SameControl.withRegs _ _))
  case jumpIf cc a => exact .guarded (.inr ⟨a, 0, .inl rfl⟩) (SameControl.withRegs _ _)
  case jumpRelativeIf cc b => exact .guarded (.inr ⟨0, b, .inr (.inl rfl)⟩) (SameControl.withRegs _ _)
  case callIf cc a => exact .guarded (.inr ⟨a, 0, .inr (.inr rfl)⟩) (SameControl.call _ _)
  case retIf cc => exact .guarded (.inl rfl) (SameControl.withRegs _ _)
  case enableInterrupts => exact .setsIme (.inl rfl) ⟨rfl, rfl, rfl⟩
  case reti => exact .setsIme (.inr rfl) ⟨rfl, rfl, rfl⟩
  case disableInterrupts => exact .clearsIme rfl ⟨rfl, rfl, rfl⟩
  case halt => exact .halts (.inl rfl) ⟨rfl, rfl, rfl⟩
  case stop b => exact .halts (.inr ⟨b, rfl⟩) ⟨rfl, rfl, rfl⟩
  case ldRegReg | ldRegImm | ldRegAtHL | ldAAtBC | ldAAtDE | ldAAtA16 | ldhAAtA8 | ldAAtC | ldAAtHLInc | ldAAtHLDec |
      ldPairImm | ldHLSpE8 | ldSpHL | popPair | daaA | cplA | scfC | ccfC | addHL | incPair | decPair | addSp | rlcA |
      rrcA | rlA | rrA | bitOperand | jump | jumpHL | jumpRelative | ret | nopStep | illegal =>
    exact .keeps ⟨rfl, rfl, rfl⟩

/-! ### What the writers of the control bits set -/

theorem exec_setsIme {i : Instr} {s t : State} (hi : i = .ei ∨ i = .reti) (h : exec i s = .next t) : t.ime = true := by
  rcases hi with rfl | rfl <;> cases h <;> rfl

theorem exec_clearsIme {s t : State} (h : exec .di s = .next t) : t.ime = false := by
  cases h
  rfl

theorem exec_halts {i : Instr} {s t : State} (hi : i = .halt ∨ ∃ b, i = .stop b) (h : exec i s = .next t) :
    t.halted = true := by
  rcases hi with rfl | ⟨b, rfl⟩ <;> cases h <;> rfl

/-- A guarded transfer runs as the model's conditional. -/
theorem exec_guarded {cc : Cond} {i : Instr} (hi : Guarded cc i) (s : State) :
    ∃ u, SameControl s.takeBranch u ∧ exec i s = .next (if s.cond cc then u else s) := by
  rcases hi with rfl | ⟨a, b, rfl | rfl | rfl⟩
  · exact ⟨ret s.takeBranch, SameControl.withRegs _ _, by cases cc <;> rfl⟩
  · exact ⟨jump a s.takeBranch, SameControl.withRegs _ _, by cases cc <;> rfl⟩
  · exact ⟨jumpRelative b s.takeBranch, SameControl.withRegs _ _, by cases cc <;> rfl⟩
  · exact ⟨Machine.call a s.takeBranch, SameControl.call _ _, by cases cc <;> rfl⟩

theorem exec_takesBranch {cc : Cond} {i : Instr} {s t : State} (hi : Guarded cc i) (hc : holds cc s = true)
    (h : exec i s = .next t) : t.branchTaken = true := by
  obtain ⟨u, hu, e⟩ := exec_guarded hi s
  rw [if_pos ((holds_eq_cond cc s).symm.trans hc)] at e
  cases e.symm.trans h
  exact hu.branchTaken

/-- Settles O41: each listed instruction makes its write, and by `Effect.controlWrite` every other write of a control
bit would make the instruction a listed one. -/
theorem controlBitWriters : Obligations.ControlBitWriters := by
  intro i s t h
  have write := (effect_of_exec h).controlWrite
  refine ⟨?_, ?_, ?_, ?_⟩
  · split
    · next hi => exact exec_setsIme hi h
    · next hi =>
      split
      · next hd => subst hd; exact exec_clearsIme h
      · next hd =>
        cases write
        case setsIme writer _ => exact absurd writer hi
        case clearsIme writer _ => exact absurd writer hd
        case keeps same | halts _ same | takesBranch _ same => exact same.ime
  · by_cases hi : i = .halt ∨ ∃ b, i = .stop b
    · rw [exec_halts hi h, decide_eq_true hi, Bool.or_true]
    · rw [decide_eq_false hi, Bool.or_false]
      cases write
      case halts writer _ => exact absurd writer hi
      case keeps same | setsIme _ same | clearsIme _ same | takesBranch _ same => exact same.halted
  · intro hb
    cases write
    case takesBranch writer _ => exact .inr writer
    case keeps same | setsIme _ same | clearsIme _ same | halts _ same => exact .inl (same.branchTaken.symm.trans hb)
  · rintro (hb | ⟨cc, hc, hi⟩)
    · cases write
      case takesBranch _ same => exact same.branchTaken
      case keeps same | setsIme _ same | clearsIme _ same | halts _ same => exact same.branchTaken.trans hb
    · exact exec_takesBranch hi hc h

/-! ### F -/

theorem State.busWrite_f (s : State) (a : Word) (v : Byte) : (s.busWrite a v).regs.f = s.regs.f :=
  congrArg Regs.f (s.busWrite_regs a v)

theorem State.writeOperand_f (s : State) (o : Operand8) (v : Byte) : (s.writeOperand o v).regs.f = s.regs.f := by
  cases o with
  | reg n => exact Regs.set8_f s.regs n v
  | atHL => exact s.busWrite_f _ v

theorem State.push16_f (s : State) (v : Word) : (s.push16 v).regs.f = s.regs.f := by
  rw [s.push16_regs v]

theorem call_f (a : Word) (s : State) : (call a s).regs.f = s.regs.f := by
  unfold call
  rw [State.setPc_regs]
  exact s.push16_f _

/-- A pop writes F only as AF's low byte (40_load.md R163). -/
theorem popPair_f {p : StackPair} (hp : p ≠ .af) (s : State) : (popPair p s).regs.f = s.regs.f := by
  cases p
  case af => exact absurd rfl hp
  case bc | de | hl => rfl

/-- A guarded transfer that leaves F when taken leaves it in any case. -/
theorem guarded_f {s u : State} (b : Bool) (hu : u.regs.f = s.regs.f) : (if b then u else s).regs.f = s.regs.f := by
  cases b
  · rfl
  · exact hu

/-- Settles O42: of the shapes of `Effect`, those that write F are the ones the hypotheses shut out. -/
theorem otherInstructionsLeaveFlags : Obligations.OtherInstructionsLeaveFlags := by
  intro i s t h hAlu hIncDec hListed hAddHL hSp hRotate hBit
  have listed : ∀ {j}, j ∈ [Instr.daa, .cpl, .scf, .ccf, .rlca, .rrca, .rla, .rra, .pop_AF] → j ≠ i :=
    fun hj e => hListed (e ▸ hj)
  cases effect_of_exec h
  case alu op o => exact absurd rfl (hAlu op o 0).1
  case aluImm op v => exact absurd rfl (hAlu op .atHL v).2
  case incOperand o => exact absurd rfl (hIncDec o).1
  case decOperand o => exact absurd rfl (hIncDec o).2
  case daaA | cplA | scfC | ccfC | rlcA | rrcA | rlA | rrA => exact absurd rfl (listed (by decide))
  case popPair p => exact popPair_f (fun e => listed (j := .pop_AF) (by decide) (by rw [e]; rfl)) s
  case addHL p => exact absurd rfl (hAddHL p)
  case addSp e => exact absurd rfl (hSp e).1
  case ldHLSpE8 e => exact absurd rfl (hSp e).2
  case rotate op o => exact absurd rfl (hRotate op o)
  case bitOperand b o => exact absurd rfl (hBit b o)
  case ldRegReg | ldRegImm | ldRegAtHL | ldAAtBC | ldAAtDE | ldAAtA16 | ldhAAtA8 | ldAAtC => exact Regs.set8_f _ _ _
  case ldAAtHLInc | ldAAtHLDec => exact (Regs.set16_f _ _ _).trans (Regs.set8_f _ _ _)
  case ldPairImm | incPair | decPair => exact Regs.set16_f _ _ _
  case ldAtHLReg | ldAtHLImm | ldAtBCA | ldAtDEA | ldAtA16A | ldhAtA8A | ldAtCA => exact s.busWrite_f _ _
  case ldAtHLIncA | ldAtHLDecA => exact (Regs.set16_f _ _ _).trans (s.busWrite_f _ _)
  case ldAtAddrSp => exact (State.busWrite_f _ _ _).trans (s.busWrite_f _ _)
  case resOperand | setOperand => exact s.writeOperand_f _ _
  case pushPair => exact s.push16_f _
  case call a => exact call_f a s
  case restart y => exact call_f (8 * BitVec.ofNat 16 y.toNat) s
  case jumpIf | jumpRelativeIf | retIf => exact guarded_f _ rfl
  case callIf => exact guarded_f _ (call_f _ s.takeBranch)
  case ldSpHL | jump | jumpHL | jumpRelative | ret | reti | nopStep | halt | stop | disableInterrupts |
      enableInterrupts | illegal => rfl

/-! ### The register pairs -/

/-- F's mask clears the low nibble. -/
theorem flagMask_toNat (f : Byte) : (f &&& 0xF0).toNat = f.toNat / 16 * 16 := by
  have nibble : f >>> 4 <<< 4 = f &&& (0xF0 : Byte) := BitVec.shiftLeft_ushiftRight
  rw [← nibble, BitVec.toNat_shiftLeft, BitVec.toNat_ushiftRight, Nat.shiftLeft_eq, Nat.shiftRight_eq_div_pow]
  have := f.isLt
  omega

/-- AF reads back with F's low nibble 0 (10_state.md R35). -/
theorem Regs.getStack_setStack_af (r : Regs) (v : Word) : (r.setStack .af v).getStack .af = v &&& 0xFFF0 :=
  calc pack (hi v) (lo v &&& 0xF0 &&& 0xF0)
    _ = pack (hi v &&& 0xFF) (lo v &&& 0xF0) := by
      rw [BitVec.and_assoc, BitVec.and_self]
      exact congrArg (pack · _) BitVec.and_allOnes.symm
    _ = pack (hi v) (lo v) &&& pack 0xFF 0xF0 := BitVec.and_append.symm
    _ = v &&& 0xFFF0 := by rw [pack_hi_lo]; rfl

/-- Settles O5: a pair reads and writes its two bytes, by the laws of `pack`, `hi` and `lo`. -/
theorem pairsAreViewsOfRegisters : Obligations.PairsAreViewsOfRegisters := by
  intro r v
  refine ⟨pack_toNat _ _, pack_toNat _ _, pack_toNat _ _, ?_, rfl, rfl, rfl, rfl, ?_, ?_, (r.get16_set16 · v),
    r.getStack_setStack_af v⟩
  · rw [← flagMask_toNat]
    exact pack_toNat _ _
  · intro n w
    rw [Regs.get8_set8, if_pos rfl]
  · intro n m w h
    rw [Regs.get8_set8, if_neg h.symm]

end Sys2Proof.Machine

/-! SUPPORT. The bus (20_memory.md R72 to R95): each entry of the decode table in one equation, what a read depends on,
which addresses a write or an instruction's stores reach, and what instructions and display steps leave. -/

namespace Sys2Proof.Machine

open Sys2Proof.Claims

/-! ### The decode table, entry by entry (R72) -/

section Entries

variable (s : State) {a : Word} (v : Byte)

theorem State.bus_intEnable (h : regionOf a = .intEnable) :
    s.busRead a = s.ie ∧ s.busWrite a v = { s with ie := v } := by
  simp only [State.busRead, State.busWrite, h, and_self]

theorem State.bus_intFlag (h : regionOf a = .intFlag) : s.busRead a = s.ifr ∧ s.busWrite a v = { s with ifr := v } := by
  simp only [State.busRead, State.busWrite, h, and_self]

theorem State.bus_controller (h : regionOf a = .controller) :
    s.busRead a = s.ctrl.getValue ∧ s.busWrite a v = { s with ctrl := s.ctrl.setValue v } := by
  simp only [State.busRead, State.busWrite, h, and_self]

theorem State.bus_unusable (h : regionOf a = .unusable) : s.busRead a = 0xFF ∧ s.busWrite a v = s := by
  simp only [State.busRead, State.busWrite, h, and_self]

theorem State.bus_cartRam (h : regionOf a = .cartRam) : s.busRead a = 0xFF ∧ s.busWrite a v = s := by
  simp only [State.busRead, State.busWrite, h, sentinel, and_self]

theorem State.bus_cartRom (h : regionOf a = .cartRom) :
    s.busRead a = s.cart.readByte a ∧ s.busWrite a v = { s with cart := s.cart.writeByte a v } := by
  simp only [State.busRead, State.busWrite, h, and_self]

/-- The boot window is the cartridge's once the latch is set (R80). -/
theorem State.bus_bootWindow_disabled (h : regionOf a = .bootWindow) (hl : s.mem.read 0xFF50 ≠ 0) :
    s.busRead a = s.cart.readByte a ∧ s.busWrite a v = { s with cart := s.cart.writeByte a v } := by
  have disabled : s.bootDisabled = true := bne_iff_ne.2 hl
  simp only [State.busRead, State.busWrite, h, disabled, if_true, and_self]

/-- Until then it is the boot ROM's, and a write does nothing. -/
theorem State.bus_bootWindow_enabled (h : regionOf a = .bootWindow) (hl : s.mem.read 0xFF50 = 0) :
    s.busRead a = s.bootRom.read a.toNat ∧ s.busWrite a v = s := by
  have enabled : s.bootDisabled = false := by rw [State.bootDisabled, hl]; rfl
  simp only [State.busRead, State.busWrite, h, enabled, Bool.false_eq_true, if_false, and_self]

theorem State.bus_plain {k : Nat} (h : plainCell a = some k) :
    s.busRead a = s.mem.read k ∧ s.busWrite a v = { s with mem := s.mem.write k v } :=
  ⟨State.busRead_plain h, State.busWrite_plain h v⟩

theorem State.busWrite_displayReg (h : regionOf a = .display) (hd : a ≠ 0xFF46) :
    s.busWrite a v = { s with lcd := s.lcd.writeReg a v } := by
  simp only [State.busWrite, h, hd, if_false]

theorem State.busWrite_dma : s.busWrite 0xFF46 v = s.dmaCopy v := rfl

end Entries

/-! ### The cells of plain storage and echo RAM (R46, R75) -/

/-- The plain entries of R72 read and write the cell at the address itself. -/
theorem plainCell_of_plainStorage {a : Word} (h : plainStorage a.toNat) : plainCell a = some a.toNat := by
  have held := regionOf_holds a
  unfold plainStorage at h
  unfold plainCell
  generalize regionOf a = r at held
  cases r
  case highRam | bootLatch | audio | timer | serial | oam | workRam | videoRam | unlistedIo => rfl
  all_goals
    simp only [Region.Holds] at held
    omega

/-- Echo RAM reads and writes the cell 0x2000 below. -/
theorem plainCell_of_echoRam {a : Word} (h : echoRam a.toNat) : plainCell a = some (a.toNat - 0x2000) := by
  have echo : regionOf a = .echo := regionOf_eq_iff.2 h
  simp only [plainCell, echo]

/-! ### The display registers (R82) and the OAM copy (R90) -/

theorem State.busRead_of_mem_displayRead {s : State} {a : Word} {x : Byte} (h : (a, x) ∈ displayRead s.lcd) :
    s.busRead a = x := by
  simp only [displayRead, List.mem_cons, Prod.mk.injEq, List.not_mem_nil, or_false] at h
  rcases h with ⟨rfl, rfl⟩ | ⟨rfl, rfl⟩ | ⟨rfl, rfl⟩ | ⟨rfl, rfl⟩ | ⟨rfl, rfl⟩ | ⟨rfl, rfl⟩ | ⟨rfl, rfl⟩ | ⟨rfl, rfl⟩ |
    ⟨rfl, rfl⟩ | ⟨rfl, rfl⟩ | ⟨rfl, rfl⟩ | ⟨rfl, rfl⟩ <;> rfl

/-- STAT's masks put the written byte's upper five bits above the three that the display controller owns. -/
theorem stat_written (v w : Byte) : (v &&& 0xF8) ||| (w &&& 0x07) = v.extractLsb' 3 5 ++ w.extractLsb' 0 3 := by
  refine BitVec.eq_of_getLsbD_eq fun i hi => ?_
  rw [BitVec.getLsbD_append]
  have : i = 0 ∨ i = 1 ∨ i = 2 ∨ i = 3 ∨ i = 4 ∨ i = 5 ∨ i = 6 ∨ i = 7 := by omega
  rcases this with rfl | rfl | rfl | rfl | rfl | rfl | rfl | rfl <;> simp

theorem State.busWrite_of_mem_displayWrite {s : State} {a : Word} {v : Byte} {d : Display}
    (h : (a, d) ∈ displayWrite s.lcd v) : s.busWrite a v = { s with lcd := d } := by
  simp only [displayWrite, List.mem_cons, Prod.mk.injEq, List.not_mem_nil, or_false, ← stat_written] at h
  rcases h with ⟨rfl, rfl⟩ | ⟨rfl, rfl⟩ | ⟨rfl, rfl⟩ | ⟨rfl, rfl⟩ | ⟨rfl, rfl⟩ | ⟨rfl, rfl⟩ | ⟨rfl, rfl⟩ | ⟨rfl, rfl⟩ |
    ⟨rfl, rfl⟩ | ⟨rfl, rfl⟩ | ⟨rfl, rfl⟩ <;> rfl

/-- Address `i` of the page the copy reads. -/
theorem pack_add_ofNat (v : Byte) (i : Nat) :
    pack v 0x00 + BitVec.ofNat 16 i = BitVec.ofNat 16 (v.toNat * 256 + i) := by
  have page : pack v 0x00 = BitVec.ofNat 16 (v.toNat * 256) := by
    refine BitVec.eq_of_toNat_eq ?_
    have := v.isLt
    rw [pack_toNat, BitVec.toNat_ofNat, Nat.mod_eq_of_lt (by omega)]
    simp
  rw [page, BitVec.ofNat_add]

/-- The copy as a loop over the byte numbers. -/
theorem dmaBytes_eq_foldl (src : Word) (n : Nat) (s : State) :
    dmaBytes src n s =
      (List.range n).foldl (fun t i => t.setCell (0xFE00 + i) (t.busRead (src + BitVec.ofNat 16 i))) s := by
  induction n with
  | zero => rfl
  | succ n ih =>
    rw [List.range_succ, List.foldl_append, ← ih]
    rfl

theorem State.dmaCopy_eq (s : State) (v : Byte) : s.dmaCopy v = dmaCopied s v := by
  unfold dmaCopied
  simp only [← pack_add_ofNat]
  exact dmaBytes_eq_foldl _ 160 s

/-- Settles O34: each range of R72 is the region of its entry, and each entry has its equation. -/
theorem busDecodeTable : Obligations.BusDecodeTable := by
  intro s a v
  refine ⟨fun h => s.bus_intEnable v (regionOf_eq_iff.2 h), fun h => s.bus_intFlag v (regionOf_eq_iff.2 h),
    fun h => s.bus_controller v (regionOf_eq_iff.2 h), fun h => s.bus_plain v (plainCell_of_plainStorage h),
    fun h => s.bus_plain v (plainCell_of_echoRam h), fun h => s.bus_unusable v (regionOf_eq_iff.2 h),
    fun h => s.bus_cartRam v (regionOf_eq_iff.2 h), fun h => s.bus_cartRom v (regionOf_eq_iff.2 h),
    fun ⟨h, hl⟩ => s.bus_bootWindow_disabled v (regionOf_eq_iff.2 h) hl,
    fun ⟨h, hl⟩ => s.bus_bootWindow_enabled v (regionOf_eq_iff.2 h) (not_not.1 hl),
    fun _ => State.busRead_of_mem_displayRead, fun _ => State.busWrite_of_mem_displayWrite, fun h => ?_⟩
  have dma : a = 0xFF46 := BitVec.eq_of_toNat_eq h
  rw [dma, State.busWrite_dma, State.dmaCopy_eq]

/-! ### Reading back (R75, R90, R94) -/

/-- A written cell is read back through every address that has it. -/
theorem State.busRead_busWrite_sameCell {s : State} (hs : s.mem.wf = true) {a b : Word} {k : Nat}
    (hb : plainCell b = some k) (ha : plainCell a = some k) (v : Byte) : (s.busWrite b v).busRead a = v := by
  rw [State.busWrite_plain hb, State.busRead_plain ha]
  exact Memory.wf_read_write_same hs k v

/-- An echo address has the cell of the work RAM address 0x2000 below. -/
theorem plainCell_sub_of_echoRam {a : Word} (h : echoRam a.toNat) : plainCell (a - 0x2000) = plainCell a := by
  have below : (a - 0x2000).toNat = a.toNat - 0x2000 := by
    unfold echoRam at h
    bv_omega
  rw [plainCell_of_echoRam h, plainCell_of_plainStorage, below]
  rw [below]
  unfold echoRam at h
  unfold plainStorage
  omega

/-- The first 0x1E00 addresses of work RAM have their echo 0x2000 above. -/
theorem plainCell_add_of_echoed {a : Word} (h : 0xC000 ≤ a.toNat ∧ a.toNat ≤ 0xDDFF) :
    plainCell (a + 0x2000) = plainCell a := by
  have above : echoRam (a + 0x2000).toNat := by
    unfold echoRam
    bv_omega
  rw [← plainCell_sub_of_echoRam above, BitVec.add_sub_cancel]

/-- Settles O35: an address and its echo have one cell, and a cell reads back what was written. -/
theorem storageReadsBackThroughEveryAlias : Obligations.StorageReadsBackThroughEveryAlias := by
  intro s a v hs ha
  obtain ⟨k, hk⟩ : ∃ k, plainCell a = some k := by
    rcases ha with plain | echo
    · exact ⟨_, plainCell_of_plainStorage plain⟩
    · exact ⟨_, plainCell_of_echoRam echo⟩
  exact ⟨State.busRead_busWrite_sameCell hs hk hk v,
    fun echo => State.busRead_busWrite_sameCell hs hk ((plainCell_sub_of_echoRam echo).trans hk) v,
    fun echoed => State.busRead_busWrite_sameCell hs hk ((plainCell_add_of_echoed echoed).trans hk) v,
    State.busWrite_wf hs a v⟩

/-- Settles O36: what the copy leaves in each cell is read off after all its bytes, by an induction on their number. -/
theorem oamDmaCopiesOnePage : Obligations.OamDmaCopiesOnePage := by
  intro s v hs
  have cell := dmaBytes_read hs v (Nat.le_refl 160)
  refine ⟨fun i hi => ?_, fun n hn => ?_, dmaBytes_eq _ _ s, rfl⟩
  · rw [← pack_add_ofNat]
    refine (cell (0xFE00 + i)).trans ?_
    rw [if_pos (by omega), Nat.add_sub_cancel_left]
  · exact (cell n).trans (if_neg (by omega))

/-! ### What a read depends on -/

section Frame

variable (s : State) {a : Word}

/-- Beside MEM and the boot ROM, an address reads the one register, port or window of its entry. -/
theorem State.busRead_withDevices {ie ifr : Byte} {cart : Cartridge} {ctrl : Controller} {lcd : Display}
    (hie : a = 0xFFFF → ie = s.ie) (hifr : a = 0xFF0F → ifr = s.ifr) (hcart : a.toNat ≤ 0x7FFF → cart = s.cart)
    (hctrl : a = 0xFF00 → ctrl = s.ctrl) (hlcd : lcd.readReg a = s.lcd.readReg a) :
    { s with ie := ie, ifr := ifr, cart := cart, ctrl := ctrl, lcd := lcd }.busRead a = s.busRead a := by
  have held := regionOf_holds a
  unfold State.busRead
  generalize regionOf a = r at held
  cases r
  case intEnable => exact hie (BitVec.eq_of_toNat_eq held)
  case intFlag => exact hifr (BitVec.eq_of_toNat_eq held)
  case display => exact hlcd
  case controller => exact congrArg Controller.getValue (hctrl (BitVec.eq_of_toNat_eq held))
  case cartRom => exact congrArg (Cartridge.readByte · a) (hcart held.2)
  case bootWindow => rw [hcart (Nat.le_trans held (by decide))]; rfl
  case highRam | bootLatch | audio | timer | serial | unusable | oam | echo | workRam | cartRam | videoRam |
      unlistedIo =>
    rfl

/-- The cells that an address reads: its own, and for the boot window the latch. -/
theorem State.busRead_withMem_of_cells {m : Memory} (cell : ∀ k, plainCell a = some k → m.read k = s.mem.read k)
    (latch : a.toNat ≤ 0xFF → m.read 0xFF50 = s.mem.read 0xFF50) :
    { s with mem := m }.busRead a = s.busRead a := by
  cases hc : plainCell a with
  | some k => rw [State.busRead_plain hc, State.busRead_plain hc, cell k hc]
  | none =>
    by_cases window : a.toNat ≤ 0xFF
    · exact s.busRead_withMem hc (latch window)
    · have region : regionOf a ≠ .bootWindow := fun e => window (regionOf_eq_iff.1 e)
      unfold plainCell at hc
      unfold State.busRead
      generalize regionOf a = r at region hc
      cases r
      case intEnable | display | intFlag | controller | unusable | cartRam | cartRom => rfl
      case bootWindow => exact absurd rfl region
      all_goals simp only [reduceCtorEq] at hc

end Frame

/-! ### What a bus write reaches (R73, R75, R79, R80, R90) -/

/-- Two addresses of one cell reach each other: they are equal, or one is the other's echo. -/
theorem reaches_of_sameCell (s : State) {a b : Word} {k : Nat} (hb : plainCell b = some k) (ha : plainCell a = some k) :
    reaches s b a := by
  rcases plainCell_cases hb with ⟨kb, -⟩ | ⟨kb, eb⟩ <;> rcases plainCell_cases ha with ⟨ka, -⟩ | ⟨ka, ea⟩
  · exact .inl (BitVec.eq_of_toNat_eq (ka.symm.trans kb))
  · have echo : echoRam a.toNat := regionOf_eq_iff.1 ea
    refine .inr (.inr (.inl ⟨echo, ?_⟩))
    unfold echoRam at echo
    omega
  · have echo : echoRam b.toNat := regionOf_eq_iff.1 eb
    refine .inr (.inl ⟨echo, ?_⟩)
    unfold echoRam at echo
    omega
  · have echoA : echoRam a.toNat := regionOf_eq_iff.1 ea
    have echoB : echoRam b.toNat := regionOf_eq_iff.1 eb
    unfold echoRam at echoA echoB
    exact .inl (BitVec.eq_of_toNat_eq (by omega))

/-- The latch's cell belongs to the latch alone. -/
theorem eq_latch_of_plainCell {b : Word} (h : plainCell b = some 0xFF50) : b = 0xFF50 := by
  rcases plainCell_cases h with ⟨e, -⟩ | ⟨e, echo⟩
  · exact BitVec.eq_of_toNat_eq e.symm
  · have := regionOf_eq_iff.1 echo
    simp only [Region.Holds] at this
    omega

/-- OAM's cells belong to OAM alone. -/
theorem oam_of_plainCell {a : Word} {k : Nat} (h : plainCell a = some k) (hk : 0xFE00 ≤ k ∧ k ≤ 0xFE9F) :
    k = a.toNat := by
  rcases plainCell_cases h with ⟨e, -⟩ | ⟨e, echo⟩
  · exact e
  · have := regionOf_eq_iff.1 echo
    simp only [Region.Holds] at this
    omega

/-- A store to plain storage or echo RAM reaches its cell's addresses, and the boot window if it is the latch. -/
theorem State.busRead_busWrite_plain {s : State} (hs : s.mem.wf = true) {a b : Word} {k : Nat}
    (hb : plainCell b = some k) (v : Byte) (h : ¬reaches s b a) : (s.busWrite b v).busRead a = s.busRead a := by
  rw [State.busWrite_plain hb]
  refine s.busRead_withMem_of_cells (fun j hj => ?_) fun window => ?_
  · have : k ≠ j := fun e => h (reaches_of_sameCell s (e ▸ hb) hj)
    exact Memory.wf_read_write_other hs v this
  · have : k ≠ 0xFF50 := fun e =>
      h (.inr (.inr (.inr (.inr (.inl ⟨eq_latch_of_plainCell (e ▸ hb), window⟩)))))
    exact Memory.wf_read_write_other hs v this

/-- The OAM copy reaches OAM. -/
theorem State.busRead_dmaCopy {s : State} (hs : s.mem.wf = true) {a : Word} (v : Byte)
    (h : ¬(0xFE00 ≤ a.toNat ∧ a.toNat ≤ 0xFE9F)) : (s.dmaCopy v).busRead a = s.busRead a := by
  have cell := dmaBytes_read hs v (Nat.le_refl 160)
  unfold State.dmaCopy
  rw [dmaBytes_eq]
  refine s.busRead_withMem_of_cells (fun k hk => ?_) fun _ => (cell 0xFF50).trans (if_neg (by decide))
  refine (cell k).trans (if_neg fun oam => ?_)
  have := oam_of_plainCell hk (by omega)
  omega

/-- A store to the cartridge reaches its windows, if it is not flat. -/
theorem State.busRead_withCart (s : State) {a b : Word} (hb : b.toNat ≤ 0x7FFF) (v : Byte) (h : ¬reaches s b a) :
    { s with cart := s.cart.writeByte b v }.busRead a = s.busRead a := by
  refine s.busRead_withDevices (fun _ => rfl) (fun _ => rfl) (fun ha => ?_) (fun _ => rfl) rfl
  cases hc : s.cart with
  | flat image => rfl
  | external hidden => exact absurd (.inr (.inr (.inr (.inr (.inr ⟨⟨hidden, hc⟩, hb, ha⟩))))) h

/-- The frame of a bus write, by the entry written. -/
theorem State.busRead_busWrite_other {s : State} (hs : s.mem.wf = true) {a b : Word} (v : Byte) (h : ¬reaches s b a) :
    (s.busWrite b v).busRead a = s.busRead a := by
  have ne : a ≠ b := fun e => h (.inl e)
  have held := regionOf_holds b
  cases hc : plainCell b with
  | some k => exact State.busRead_busWrite_plain hs hc v h
  | none =>
    cases hr : regionOf b <;> rw [hr] at held
    case intEnable =>
      obtain rfl : b = 0xFFFF := BitVec.eq_of_toNat_eq held
      exact s.busRead_withDevices (absurd · ne) (fun _ => rfl) (fun _ => rfl) (fun _ => rfl) rfl
    case intFlag =>
      obtain rfl : b = 0xFF0F := BitVec.eq_of_toNat_eq held
      exact s.busRead_withDevices (fun _ => rfl) (absurd · ne) (fun _ => rfl) (fun _ => rfl) rfl
    case controller =>
      obtain rfl : b = 0xFF00 := BitVec.eq_of_toNat_eq held
      exact s.busRead_withDevices (fun _ => rfl) (fun _ => rfl) (fun _ => rfl) (absurd · ne) rfl
    case display =>
      by_cases dma : b = 0xFF46
      · subst dma
        exact State.busRead_dmaCopy hs v fun oam => h (.inr (.inr (.inr (.inl ⟨rfl, oam⟩))))
      · rw [s.busWrite_displayReg v hr dma]
        exact s.busRead_withDevices (fun _ => rfl) (fun _ => rfl) (fun _ => rfl) (fun _ => rfl)
          (s.lcd.readReg_writeReg_other v ne)
    case unusable => rw [(s.bus_unusable v hr).2]
    case cartRam => rw [(s.bus_cartRam v hr).2]
    case cartRom =>
      rw [(s.bus_cartRom v hr).2]
      exact s.busRead_withCart held.2 v h
    case bootWindow =>
      by_cases latch : s.mem.read 0xFF50 = 0
      · rw [(s.bus_bootWindow_enabled v hr latch).2]
      · rw [(s.bus_bootWindow_disabled v hr latch).2]
        exact s.busRead_withCart (Nat.le_trans held (by decide)) v h
    case highRam | bootLatch | audio | timer | serial | oam | echo | workRam | videoRam | unlistedIo =>
      simp only [plainCell, hr, reduceCtorEq] at hc

/-- Settles O37, by the entry of R72 that the written address falls under. -/
theorem busWriteLeavesOtherAddresses : Obligations.BusWriteLeavesOtherAddresses :=
  fun _ _ _ v hs h => State.busRead_busWrite_other hs v h

/-! ### What an instruction's stores reach -/

/-- Which cartridge answers is all that `reaches` takes from a state, and no store changes it. -/
theorem reaches_of_evolves {s t : State} (h : s.cart.Evolves t.cart) {a b : Word} (ht : reaches t b a) :
    reaches s b a := by
  rcases ht with same | above | below | oam | window | ⟨⟨hidden, ext⟩, hb, ha⟩
  · exact .inl same
  · exact .inr (.inl above)
  · exact .inr (.inr (.inl below))
  · exact .inr (.inr (.inr (.inl oam)))
  · exact .inr (.inr (.inr (.inr (.inl window))))
  · cases hc : s.cart with
    | flat image => rw [h.1 image hc] at ext; cases ext
    | external hidden' => exact .inr (.inr (.inr (.inr (.inr ⟨⟨hidden', hc⟩, hb, ha⟩))))

theorem State.busRead_withRegs (s : State) (r : Regs) (a : Word) : { s with regs := r }.busRead a = s.busRead a := rfl

theorem State.busRead_setReg16 (s : State) (p : Pair) (v : Word) (a : Word) :
    (s.setReg16 p v).busRead a = s.busRead a := rfl

section Stores

variable {s : State} {a : Word} (hs : s.mem.wf = true)
include hs

theorem State.busRead_busWrite_twice {b c : Word} (v w : Byte) (hb : ¬reaches s b a) (hc : ¬reaches s c a) :
    ((s.busWrite b v).busWrite c w).busRead a = s.busRead a :=
  (State.busRead_busWrite_other (State.busWrite_wf hs b v) w
    fun h => hc (reaches_of_evolves (s.busWrite_cart b v) h)).trans (State.busRead_busWrite_other hs v hb)

theorem State.busRead_writeOperand {o : Operand8} (v : Byte) {written : List Word} (ho : o = .atHL → hl s ∈ written)
    (h : ∀ b ∈ written, ¬reaches s b a) : (s.writeOperand o v).busRead a = s.busRead a := by
  cases o with
  | reg n => rfl
  | atHL => exact State.busRead_busWrite_other hs v (h _ (ho rfl))

/-- A push stores to its two slots. -/
theorem State.busRead_push16 (v : Word) (h : ∀ b ∈ slots s, ¬reaches s b a) : (s.push16 v).busRead a = s.busRead a := by
  rw [State.push16_eq]
  exact State.busRead_busWrite_twice (s := s.setSp (s.regs.sp - 2)) hs _ _ (h _ (.head _)) (h _ (.tail _ (.head _)))

/-- A jump after the push stores nothing more. -/
theorem State.busRead_push16_setPc (v target : Word) (h : ∀ b ∈ slots s, ¬reaches s b a) :
    ((s.push16 v).setPc target).busRead a = s.busRead a :=
  ((s.push16 v).busRead_withRegs _ a).trans (State.busRead_push16 hs v h)

end Stores

/-- A guarded transfer that leaves an address when taken leaves it in any case. -/
theorem State.busRead_guarded {s u : State} {a : Word} (b : Bool) (hu : u.busRead a = s.busRead a) :
    (if b then u else s).busRead a = s.busRead a := by
  cases b
  · rfl
  · exact hu

theorem stores_push (p : StackPair) (s : State) : stores (Instr.push p) s = slots s := by cases p <;> rfl

theorem stores_rst (y : Field3) (s : State) : stores (Instr.rst y) s = slots s := by cases y <;> rfl

theorem stores_callIf (cc : Cond) (a : Word) (s : State) :
    stores (Instr.callIf cc a) s = if holds cc s then slots s else [] := by cases cc <;> rfl

theorem stores_ldAtHLReg (r : Reg8) (s : State) : stores (Instr.ldAtHLReg r) s = [hl s] := by cases r <;> rfl

/-- Every shape of instruction stores where `stores` says. -/
theorem Effect.busRead_of_not_reaches {i : Instr} {s t : State} (e : Effect i s t) {a : Word} (hs : s.mem.wf = true)
    (h : ∀ b ∈ stores i s, ¬reaches s b a) : t.busRead a = s.busRead a := by
  cases e
  case ldAtHLReg r =>
    rw [stores_ldAtHLReg] at h
    exact State.busRead_busWrite_other hs _ (h _ (.head _))
  case ldAtHLImm | ldAtBCA | ldAtDEA | ldAtA16A | ldhAtA8A | ldAtCA =>
    exact State.busRead_busWrite_other hs _ (h _ (.head _))
  case ldAtHLIncA | ldAtHLDecA =>
    exact (State.busRead_setReg16 _ _ _ a).trans (State.busRead_busWrite_other hs _ (h _ (.head _)))
  case ldAtAddrSp => exact State.busRead_busWrite_twice hs _ _ (h _ (.head _)) (h _ (.tail _ (.head _)))
  case pushPair p =>
    rw [stores_push] at h
    exact State.busRead_push16 hs _ h
  case restart y =>
    rw [stores_rst] at h
    exact State.busRead_push16_setPc hs _ _ h
  case call => exact State.busRead_push16_setPc hs _ _ h
  case callIf cc _ =>
    rw [stores_callIf, holds_eq_cond] at h
    unfold Machine.callIf
    split
    · next taken =>
      rw [if_pos taken] at h
      exact State.busRead_push16_setPc (s := s.takeBranch) hs _ _ h
    · rfl
  case incOperand | decOperand => exact State.busRead_writeOperand hs _ (by rintro rfl; exact .head _) h
  case rotate op _ => cases op <;> exact State.busRead_writeOperand hs _ (by rintro rfl; exact .head _) h
  case resOperand n _ | setOperand n _ =>
    exact State.busRead_writeOperand hs _ (by rintro rfl; cases n <;> exact .head _) h
  case alu op _ | aluImm op _ => cases op <;> rfl
  case jumpIf | jumpRelativeIf | retIf => exact State.busRead_guarded _ rfl
  case ldRegReg | ldRegImm | ldRegAtHL | ldAAtBC | ldAAtDE | ldAAtA16 | ldhAAtA8 | ldAAtC | ldAAtHLInc | ldAAtHLDec |
      ldPairImm | ldHLSpE8 | ldSpHL | popPair | daaA | cplA | scfC | ccfC | addHL | incPair | decPair | addSp | rlcA |
      rrcA | rlA | rrA | bitOperand | jump | jumpHL | jumpRelative | ret | reti | nopStep | halt | stop |
      disableInterrupts | enableInterrupts | illegal =>
    rfl

/-- Settles O38, by the shape of the instruction. -/
theorem instructionsStoreOnlyWhereTheySay : Obligations.InstructionsStoreOnlyWhereTheySay :=
  fun _ _ _ _ hs e h => (effect_of_exec e).busRead_of_not_reaches hs h

/-! ### What instructions and display steps leave (R95, 10_state.md R57) -/

/-- Bytes that agree under the mask of their three low bits agree there. -/
theorem extractLsb'_low_of_mask {v w : Byte} (h : v &&& 0x07 = w &&& 0x07) : v.extractLsb' 0 3 = w.extractLsb' 0 3 := by
  have low : ∀ u : Byte, (u &&& 0x07).extractLsb' 0 3 = u.extractLsb' 0 3 := fun u => by
    rw [BitVec.extractLsb'_and]
    exact BitVec.and_allOnes
  rw [← low v, h, low w]

/-- Settles O40, by what every shape of instruction keeps. -/
theorem instructionsLeaveDisplayState : Obligations.InstructionsLeaveDisplayState := fun _ _ _ h =>
  have k := exec_keeps h
  ⟨k.ly, k.mode, k.acc, k.fb, k.bgi, extractLsb'_low_of_mask k.stat, k.sink, k.bootRom, k.ticks⟩

/-- Bytes that agree from bit `n` on have the same field there. -/
theorem extractLsb'_high_of_getLsbD {v w : Byte} {n len : Nat} (h : ∀ i, n ≤ i → v.getLsbD i = w.getLsbD i) :
    v.extractLsb' n len = w.extractLsb' n len := by
  refine BitVec.eq_of_getLsbD_eq fun i _ => ?_
  rw [BitVec.getLsbD_extractLsb', BitVec.getLsbD_extractLsb', h _ (Nat.le_add_right n i)]

/-- A byte whose bits are all set in another is kept by an AND with it. -/
theorem and_eq_left_of_getLsbD {v w : Byte} (h : ∀ i, v.getLsbD i = true → w.getLsbD i = true) : v &&& w = v := by
  refine BitVec.eq_of_getLsbD_eq fun i _ => ?_
  rw [BitVec.getLsbD_and, Bool.and_eq_left_iff_imp]
  exact h i

/-- Settles O56, by what every pass of the display step's loop keeps. -/
theorem displayStepChangesOnlyDisplayState : Obligations.DisplayStepChangesOnlyDisplayState := fun s n =>
  have d := DisplayOnly.dispTick s n
  ⟨d.rest, extractLsb'_high_of_getLsbD d.ifrHigh, and_eq_left_of_getLsbD d.ifrKept,
    extractLsb'_high_of_getLsbD d.statHigh, d.registers⟩

end Sys2Proof.Machine

/-! SUPPORT. The encoding (30_encoding.md R110 to R124): the fields of an opcode byte, the columns of R113 read both
ways, and the decoder and the encoder as inverses. -/

namespace Sys2Proof

open Sys2Proof.Machine Sys2Proof.Claims

/-! ### The fields of an opcode byte (R112) -/

section Fields

variable (x : BitVec 2) (y z : BitVec 3)

/-- The number of the byte `xx yyy zzz`. -/
theorem fields_toNat : (x ++ y ++ z : Byte).toNat = x.toNat * 64 + y.toNat * 8 + z.toNat := by
  rw [BitVec.toNat_append, BitVec.toNat_append, ← Nat.shiftLeft_add_eq_or_of_lt z.isLt,
    ← Nat.shiftLeft_add_eq_or_of_lt y.isLt, Nat.shiftLeft_eq, Nat.shiftLeft_eq]
  omega

theorem fields_x : (x ++ y ++ z : Byte).toNat / 64 = x.toNat := by
  rw [fields_toNat]
  omega

theorem fields_y : (x ++ y ++ z : Byte).toNat / 8 % 8 = y.toNat := by
  rw [fields_toNat]
  omega

theorem fields_z : (x ++ y ++ z : Byte).toNat % 8 = z.toNat := by
  rw [fields_toNat]
  omega

end Fields

@[simp] theorem fieldCode_toNat (y : Field3) : (fieldCode y).toNat = y.toNat := by cases y <;> rfl

/-- Every 3-bit value is a field's. -/
theorem fieldCode_field3Of (y : BitVec 3) : fieldCode (field3Of y.toNat) = y := by
  revert y
  decide

/-- Every byte is `xx yyy zzz`, by the quarter `x` it lies in. -/
theorem byte_cases {P : Byte → Prop} (b : Byte)
    (x0 : ∀ y z : Field3, P (0b00#2 ++ fieldCode y ++ fieldCode z))
    (x1 : ∀ y z : Field3, P (0b01#2 ++ fieldCode y ++ fieldCode z))
    (x2 : ∀ y z : Field3, P (0b10#2 ++ fieldCode y ++ fieldCode z))
    (x3 : ∀ y z : Field3, P (0b11#2 ++ fieldCode y ++ fieldCode z)) : P b := by
  have fields : b.extractLsb' 6 2 ++ b.extractLsb' 3 3 ++ b.extractLsb' 0 3 = b := by
    rw [BitVec.extractLsb'_append_extractLsb'_eq_extractLsb' (show 6 = 3 + 3 from rfl),
      BitVec.extractLsb'_append_extractLsb'_eq_extractLsb' (show 3 = 0 + 3 from rfl)]
    exact BitVec.extractLsb'_eq_self
  rw [← fields, ← fieldCode_field3Of (b.extractLsb' 3 3), ← fieldCode_field3Of (b.extractLsb' 0 3)]
  have quarters : ∀ x : BitVec 2, x = 0b00#2 ∨ x = 0b01#2 ∨ x = 0b10#2 ∨ x = 0b11#2 := by decide
  rcases quarters (b.extractLsb' 6 2) with h | h | h | h <;> rw [h]
  · exact x0 _ _
  · exact x1 _ _
  · exact x2 _ _
  · exact x3 _ _

/-! ### The columns of R113, read both ways -/

/-- The eight operands of the r8 column, in its order. -/
theorem operand8_cases {P : Operand8 → Prop} (o : Operand8) (b : P (.reg .b)) (c : P (.reg .c)) (d : P (.reg .d))
    (e : P (.reg .e)) (h : P (.reg .h)) (l : P (.reg .l)) (atHL : P .atHL) (a : P (.reg .a)) : P o :=
  match o with
  | .reg .b => b
  | .reg .c => c
  | .reg .d => d
  | .reg .e => e
  | .reg .h => h
  | .reg .l => l
  | .atHL => atHL
  | .reg .a => a

@[simp] theorem operandOf_operandCode (o : Operand8) : operandOf (operandCode o).toNat = o := by
  induction o using operand8_cases <;> rfl

@[simp] theorem aluOf_aluCode (op : AluOp) : aluOf (aluCode op).toNat = op := by cases op <;> rfl

@[simp] theorem rotOf_rotCode (op : RotOp) : rotOf (rotCode op).toNat = op := by cases op <;> rfl

@[simp] theorem field3Of_toNat (y : Field3) : field3Of y.toNat = y := by cases y <;> rfl

@[simp] theorem operandCode_operandOf (y : Field3) : operandCode (operandOf y.toNat) = fieldCode y := by cases y <;> rfl

@[simp] theorem aluCode_aluOf (y : Field3) : aluCode (aluOf y.toNat) = fieldCode y := by cases y <;> rfl

@[simp] theorem rotCode_rotOf (y : Field3) : rotCode (rotOf y.toNat) = fieldCode y := by cases y <;> rfl

/-! ### The decoder by quarter (R116, R120) -/

section Quarters

variable (y z : BitVec 3) (b1 b2 : Byte)

theorem decode_x0 : decode (0b00#2 ++ y ++ z) b1 b2 = decodeX0 y.toNat z.toNat b1 b2 := by
  rw [decode, fields_x, fields_y, fields_z]
  rfl

theorem decode_x1 : decode (0b01#2 ++ y ++ z) b1 b2 = decodeLoad (operandOf y.toNat) (operandOf z.toNat) := by
  rw [decode, fields_x, fields_y, fields_z]
  rfl

theorem decode_x2 : decode (0b10#2 ++ y ++ z) b1 b2 = .alu (aluOf y.toNat) (operandOf z.toNat) := by
  rw [decode, fields_x, fields_y, fields_z]
  rfl

theorem decode_x3 : decode (0b11#2 ++ y ++ z) b1 b2 = decodeX3 y.toNat z.toNat b1 b2 := by
  rw [decode, fields_x, fields_y, fields_z]
  rfl

theorem decodeCB_x0 : decodeCB (0b00#2 ++ y ++ z) = .rotate (rotOf y.toNat) (operandOf z.toNat) := by
  rw [decodeCB, fields_x, fields_y, fields_z]
  rfl

theorem decodeCB_x1 : decodeCB (0b01#2 ++ y ++ z) = .bitTest (field3Of y.toNat) (operandOf z.toNat) := by
  rw [decodeCB, fields_x, fields_y, fields_z]
  rfl

theorem decodeCB_x2 : decodeCB (0b10#2 ++ y ++ z) = .bitReset (field3Of y.toNat) (operandOf z.toNat) := by
  rw [decodeCB, fields_x, fields_y, fields_z]
  rfl

theorem decodeCB_x3 : decodeCB (0b11#2 ++ y ++ z) = .bitSet (field3Of y.toNat) (operandOf z.toNat) := by
  rw [decodeCB, fields_x, fields_y, fields_z]
  rfl

/-- The two middle quarters hold one-byte instructions only (R110). -/
theorem lengthOf_x1 : lengthOf (0b01#2 ++ y ++ z) = 1 := by
  revert y z
  decide

theorem lengthOf_x2 : lengthOf (0b10#2 ++ y ++ z) = 1 := by
  revert y z
  decide

end Quarters

/-! ### The encoder by shape (R112, R120) -/

theorem encode_decodeLoad (dst src : Operand8) :
    encode (decodeLoad dst src) = [0b01#2 ++ operandCode dst ++ operandCode src] := by
  induction dst using operand8_cases <;> induction src using operand8_cases <;> rfl

theorem encode_alu (op : AluOp) (o : Operand8) : encode (.alu op o) = [0b10#2 ++ aluCode op ++ operandCode o] := by
  cases op <;> induction o using operand8_cases <;> rfl

theorem encode_rotate (op : RotOp) (o : Operand8) :
    encode (.rotate op o) = [0xCB, 0b00#2 ++ rotCode op ++ operandCode o] := by
  cases op <;> induction o using operand8_cases <;> rfl

theorem encode_bitTest (b : Field3) (o : Operand8) :
    encode (.bitTest b o) = [0xCB, 0b01#2 ++ fieldCode b ++ operandCode o] := by
  cases b <;> induction o using operand8_cases <;> rfl

theorem encode_bitReset (b : Field3) (o : Operand8) :
    encode (.bitReset b o) = [0xCB, 0b10#2 ++ fieldCode b ++ operandCode o] := by
  cases b <;> induction o using operand8_cases <;> rfl

theorem encode_bitSet (b : Field3) (o : Operand8) :
    encode (.bitSet b o) = [0xCB, 0b11#2 ++ fieldCode b ++ operandCode o] := by
  cases b <;> induction o using operand8_cases <;> rfl

/-! ### Decoding what was encoded -/

/-- Decoding the instruction's bytes, whatever follows, gives it back. -/
def RoundTrips (i : Instr) : Prop := ∀ rest : List Byte, decodeBytes (encode i ++ rest) = .ok (i, rest)

section RoundTrips

variable {i : Instr} {b0 b1 : Byte}

theorem roundTrips_one (he : encode i = [b0]) (hl : lengthOf b0 = 1) (hd : ∀ b1 b2, decode b0 b1 b2 = i) :
    RoundTrips i := fun rest => by
  rw [he, List.singleton_append, decodeBytes_one rest hl, hd]

theorem roundTrips_two (he : encode i = [b0, b1]) (hl : lengthOf b0 = 2) (hd : ∀ b2, decode b0 b1 b2 = i) :
    RoundTrips i := fun rest => by
  rw [he, List.cons_append, List.singleton_append, decodeBytes_two b1 rest hl, hd]

/-- A word operand is put together again from its two bytes (R115). -/
theorem roundTrips_word {f : Word → Instr} (w : Word) (he : encode (f w) = [b0, lo w, hi w]) (hl : lengthOf b0 = 3)
    (hd : ∀ b1 b2, decode b0 b1 b2 = f (pack b2 b1)) : RoundTrips (f w) := fun rest => by
  rw [he, List.cons_append, List.cons_append, List.singleton_append, decodeBytes_three _ _ rest hl, hd, pack_hi_lo]

/-- The second table needs only its own byte (R120). -/
theorem roundTrips_cb (he : encode i = [0xCB, b1]) (hd : decodeCB b1 = i) : RoundTrips i :=
  roundTrips_two he rfl fun _ => hd

end RoundTrips

theorem roundTrips_decodeLoad (dst src : Operand8) : RoundTrips (decodeLoad dst src) :=
  roundTrips_one (encode_decodeLoad dst src) (lengthOf_x1 _ _) fun _ _ => by
    rw [decode_x1, operandOf_operandCode, operandOf_operandCode]

theorem roundTrips_alu (op : AluOp) (o : Operand8) : RoundTrips (.alu op o) :=
  roundTrips_one (encode_alu op o) (lengthOf_x2 _ _) fun _ _ => by
    rw [decode_x2, aluOf_aluCode, operandOf_operandCode]

theorem roundTrips_rotate (op : RotOp) (o : Operand8) : RoundTrips (.rotate op o) :=
  roundTrips_cb (encode_rotate op o) (by rw [decodeCB_x0, rotOf_rotCode, operandOf_operandCode])

theorem roundTrips_bitTest (b : Field3) (o : Operand8) : RoundTrips (.bitTest b o) :=
  roundTrips_cb (encode_bitTest b o) (by rw [decodeCB_x1, fieldCode_toNat, field3Of_toNat, operandOf_operandCode])

theorem roundTrips_bitReset (b : Field3) (o : Operand8) : RoundTrips (.bitReset b o) :=
  roundTrips_cb (encode_bitReset b o) (by rw [decodeCB_x2, fieldCode_toNat, field3Of_toNat, operandOf_operandCode])

theorem roundTrips_bitSet (b : Field3) (o : Operand8) : RoundTrips (.bitSet b o) :=
  roundTrips_cb (encode_bitSet b o) (by rw [decodeCB_x3, fieldCode_toNat, field3Of_toNat, operandOf_operandCode])

theorem roundTrips_illegal {i : Instr} {op : Byte} (h : (i, op) ∈ illegalInstrs) : RoundTrips i := by
  simp only [illegalInstrs, List.mem_cons, Prod.mk.injEq, List.not_mem_nil, or_false] at h
  rcases h with ⟨rfl, -⟩ | ⟨rfl, -⟩ | ⟨rfl, -⟩ | ⟨rfl, -⟩ | ⟨rfl, -⟩ | ⟨rfl, -⟩ | ⟨rfl, -⟩ | ⟨rfl, -⟩ | ⟨rfl, -⟩ |
    ⟨rfl, -⟩ | ⟨rfl, -⟩ <;> exact roundTrips_one rfl rfl fun _ _ => rfl

/-- Every shape of instruction round-trips. -/
theorem roundTrips_of_effect {i : Instr} {s t : State} (shape : Effect i s t) : RoundTrips i := by
  cases shape
  case ldRegReg dst src => exact roundTrips_decodeLoad (.reg dst) (.reg src)
  case ldRegAtHL dst => exact roundTrips_decodeLoad (.reg dst) .atHL
  case ldAtHLReg src => exact roundTrips_decodeLoad .atHL (.reg src)
  case halt => exact roundTrips_decodeLoad .atHL .atHL
  case alu op o => exact roundTrips_alu op o
  case rotate op o => exact roundTrips_rotate op o
  case bitOperand b o => exact roundTrips_bitTest b o
  case resOperand b o => exact roundTrips_bitReset b o
  case setOperand b o => exact roundTrips_bitSet b o
  case incOperand o | decOperand o => induction o using operand8_cases <;> exact roundTrips_one rfl rfl fun _ _ => rfl
  case illegal h => exact roundTrips_illegal h
  case ldRegImm r v => cases r <;> exact roundTrips_two rfl rfl fun _ => rfl
  case aluImm op v => cases op <;> exact roundTrips_two rfl rfl fun _ => rfl
  case jumpRelativeIf cc e => cases cc <;> exact roundTrips_two rfl rfl fun _ => rfl
  case ldPairImm p w => cases p <;> exact roundTrips_word w rfl rfl fun _ _ => rfl
  case jumpIf cc a | callIf cc a => cases cc <;> exact roundTrips_word a rfl rfl fun _ _ => rfl
  case pushPair p | popPair p | addHL p | incPair p | decPair p =>
    cases p <;> exact roundTrips_one rfl rfl fun _ _ => rfl
  case retIf cc => cases cc <;> exact roundTrips_one rfl rfl fun _ _ => rfl
  case restart y => cases y <;> exact roundTrips_one rfl rfl fun _ _ => rfl
  case ldAtHLImm | ldhAAtA8 | ldhAtA8A | ldHLSpE8 | addSp | jumpRelative | stop =>
    exact roundTrips_two rfl rfl fun _ => rfl
  case ldAAtA16 a | ldAtA16A a | ldAtAddrSp a | jump a | call a => exact roundTrips_word a rfl rfl fun _ _ => rfl
  case ldAAtBC | ldAAtDE | ldAAtC | ldAtBCA | ldAtDEA | ldAtCA | ldAtHLIncA | ldAtHLDecA | ldAAtHLInc | ldAAtHLDec |
      ldSpHL | daaA | cplA | scfC | ccfC | rlcA | rrcA | rlA | rrA | jumpHL | ret | reti | nopStep | disableInterrupts |
      enableInterrupts =>
    exact roundTrips_one rfl rfl fun _ _ => rfl

/-- Settles O1, by the shape of the instruction, which its effect on any state shows: each field of R112 reads back the
code of R113 written there. -/
theorem decodeInvertsEncode : Obligations.DecodeInvertsEncode := fun i =>
  have ⟨_, _, shape⟩ := exec_effect i State.reset
  roundTrips_of_effect shape

/-! ### Encoding what was decoded -/

/-- The decoder answers an instruction exactly when the bytes its opcode asks for are there (R110, R111). -/
theorem decodeBytes_eq_ok {bytes rest : List Byte} {i : Instr} :
    decodeBytes bytes = .ok (i, rest) ↔ ∃ b0 tail, bytes = b0 :: tail ∧ lengthOf b0 ≤ tail.length + 1 ∧
      decode b0 (tail.getD 0 0) (tail.getD 1 0) = i ∧ tail.drop (lengthOf b0 - 1) = rest := by
  cases bytes with
  | nil => simp [decodeBytes]
  | cons b0 tail =>
    rw [decodeBytes_cons]
    by_cases short : tail.length + 1 < lengthOf b0
    · simp [short]
    · simp [short, Nat.not_lt.1 short]

/-- The bytes an instruction takes of the three read at PC (R111). -/
def consumed (b0 b1 b2 : Byte) : List Byte := [b0, b1, b2].take (lengthOf b0)

theorem encode_decodeCB (b : Byte) : encode (decodeCB b) = [0xCB, b] := by
  induction b using byte_cases with
  | x0 y z => rw [decodeCB_x0, encode_rotate, fieldCode_toNat, fieldCode_toNat, rotCode_rotOf, operandCode_operandOf]
  | x1 y z => rw [decodeCB_x1, encode_bitTest, fieldCode_toNat, fieldCode_toNat, field3Of_toNat, operandCode_operandOf]
  | x2 y z => rw [decodeCB_x2, encode_bitReset, fieldCode_toNat, fieldCode_toNat, field3Of_toNat, operandCode_operandOf]
  | x3 y z => rw [decodeCB_x3, encode_bitSet, fieldCode_toNat, fieldCode_toNat, field3Of_toNat, operandCode_operandOf]

/-- A word operand's two bytes are the ones it was put together from (R115). -/
theorem word_bytes (b0 b1 b2 : Byte) : [b0, lo (pack b2 b1), hi (pack b2 b1)] = [b0, b1, b2] := by
  rw [lo_pack, hi_pack]

theorem encode_decodeX0 (y z : Field3) (b1 b2 : Byte) :
    encode (decodeX0 y.toNat z.toNat b1 b2) = consumed (0b00#2 ++ fieldCode y ++ fieldCode z) b1 b2 := by
  cases z with
  | n0 =>
    cases y
    case n1 => exact word_bytes 0x08 b1 b2
    all_goals rfl
  | n1 =>
    cases y
    case n0 | n2 | n4 | n6 => exact word_bytes _ b1 b2
    all_goals rfl
  | n2 | n3 | n4 | n5 | n6 | n7 => cases y <;> rfl

theorem encode_decodeX3 (y z : Field3) (b1 b2 : Byte) :
    encode (decodeX3 y.toNat z.toNat b1 b2) = consumed (0b11#2 ++ fieldCode y ++ fieldCode z) b1 b2 := by
  cases z with
  | n2 =>
    cases y
    case n4 | n6 => rfl
    all_goals exact word_bytes _ b1 b2
  | n3 =>
    cases y
    case n0 => exact word_bytes 0xC3 b1 b2
    case n1 => exact encode_decodeCB b1
    all_goals rfl
  | n4 =>
    cases y
    case n0 | n1 | n2 | n3 => exact word_bytes _ b1 b2
    all_goals rfl
  | n5 =>
    cases y
    case n1 => exact word_bytes 0xCD b1 b2
    all_goals rfl
  | n0 | n1 | n6 | n7 => cases y <;> rfl

/-- The encoder writes the bytes the decoder read. -/
theorem encode_decode (b0 b1 b2 : Byte) : encode (decode b0 b1 b2) = consumed b0 b1 b2 := by
  induction b0 using byte_cases with
  | x0 y z => rw [decode_x0, fieldCode_toNat, fieldCode_toNat, encode_decodeX0]
  | x1 y z =>
    rw [decode_x1, encode_decodeLoad, fieldCode_toNat, fieldCode_toNat, operandCode_operandOf, operandCode_operandOf,
      consumed, lengthOf_x1]
    rfl
  | x2 y z =>
    rw [decode_x2, encode_alu, fieldCode_toNat, fieldCode_toNat, aluCode_aluOf, operandCode_operandOf, consumed,
      lengthOf_x2]
    rfl
  | x3 y z => rw [decode_x3, fieldCode_toNat, fieldCode_toNat, encode_decodeX3]

/-- An instruction has one to three bytes (R110). -/
theorem lengthOf_cases (b0 : Byte) : lengthOf b0 = 1 ∨ lengthOf b0 = 2 ∨ lengthOf b0 = 3 := by
  revert b0
  decide

/-- The consumed bytes and the rest are all the bytes. -/
theorem consumed_append {b0 : Byte} {tail : List Byte} (h : lengthOf b0 ≤ tail.length + 1) :
    consumed b0 (tail.getD 0 0) (tail.getD 1 0) ++ tail.drop (lengthOf b0 - 1) = b0 :: tail := by
  unfold consumed
  rcases lengthOf_cases b0 with hl | hl | hl <;> rw [hl] at h ⊢
  · rfl
  · match tail, h with
    | _ :: _, _ => rfl
  · match tail, h with
    | _ :: _ :: _, _ => rfl

/-- Settles O2: the encoder writes the consumed bytes back, by the fields of the opcode byte. -/
theorem encodeInvertsDecode : Obligations.EncodeInvertsDecode := by
  intro bytes i rest h
  obtain ⟨b0, tail, rfl, hl, rfl, rfl⟩ := decodeBytes_eq_ok.1 h
  rw [encode_decode, consumed_append hl]

/-- Settles O3: each word is its instruction's encoding, and JP's opcode asks for three bytes. -/
theorem specWordsDecode : Obligations.SpecWordsDecode :=
  ⟨decodeInvertsEncode (.ld_A_d8 0x05) [0x3C, 0x76], decodeInvertsEncode .inc_A [0x76], decodeInvertsEncode .halt [],
    decodeInvertsEncode (.ld_atA16_SP 0xC100) [], decodeInvertsEncode .set_3_atHL [], decodeInvertsEncode .set_1_E [],
    decodeInvertsEncode (.jr_NZ_e8 0xFB) [], decodeInvertsEncode .illegal_D3 [], rfl⟩

end Sys2Proof

/-! SUPPORT. A step that executes the decoded instruction (60_exceptions.md R300, R370). -/

namespace Sys2Proof.Machine

open Sys2Proof.Claims

/-- What decodes at PC is what the step fetches. -/
theorem State.fetched_of_decodeBytes {s : State} {i : Instr} {rest : List Byte}
    (h : decodeBytes (bytesAtPc s) = .ok (i, rest)) : s.fetched = i := by
  obtain ⟨b0, tail, hb, -, hd, -⟩ := decodeBytes_eq_ok.1 h
  cases hb
  exact hd

/-- No kind is pending and enabled exactly when `pending` is zero (R310). -/
theorem nonePending_iff (s : State) : nonePending s ↔ s.pending = 0 := by
  rw [State.pending_eq_zero]
  refine forall₂_congr fun n hn => ?_
  rw [s.pending_bit hn, pendingKind, Bool.and_eq_false_iff, not_and_or, Bool.not_eq_true, Bool.not_eq_true]

/-- When nothing keeps the processor from executing, it executes, awake (R300, R317). -/
theorem cpuTick_executes {s : State} (hh : ¬(s.halted = true ∧ nonePending s)) (hi : s.ime = true → nonePending s) :
    cpuTick s = executeOne { s with halted := false } := by
  rcases cpuTick_cases s with ⟨halted, idle, -⟩ | ⟨k, ime, chosen, -⟩ | ⟨-, -, e⟩
  · exact absurd ⟨halted, (nonePending_iff s).2 idle⟩ hh
  · have unchosen : selectKind s.pending = none :=
      selectKind_eq_none.2 ((State.pending_eq_zero s).1 ((nonePending_iff s).1 (hi ime)))
    cases unchosen.symm.trans chosen
  · exact e

/-- Settles O45: the processor executes what it fetches, and the system step ends as its cost, or Fatal, decides. -/
theorem stepRunsDecodedInstruction : Obligations.StepRunsDecodedInstruction := by
  intro s i rest hf hh hi hd
  obtain ⟨t, ht, he⟩ := executeOne_eq { s with halted := false }
  have fetched : { s with halted := false }.fetched = i := State.fetched_of_decodeBytes (s := s) hd
  rw [fetched] at ht he
  have tick := (cpuTick_executes hh hi).trans he
  refine ⟨t, ht, ?_⟩
  by_cases fatal : t.fault = none
  · rw [if_pos fatal]
    rw [fatal] at tick
    exact step_running hf tick
  · rw [if_neg fatal]
    rw [if_pos (Option.isSome_iff_ne_none.2 fatal)] at tick
    exact step_fatal hf tick

end Sys2Proof.Machine

/-! SUPPORT. The loads, the stores and the stack (40_load.md R140 to R164): what each shape of instruction answers, its
encoding and its cost, the signed offset of the stack pointer (42_alu16.md R210), and a pop after a push. -/

namespace Sys2Proof.Machine

open Sys2Proof.Claims

/-! ### Cycle costs (30_encoding.md R119) -/

/-- An unprefixed opcode with no taken cost always takes its base cost. -/
theorem cost_of_encode {i : Instr} {op : Byte} {rest : List Byte} {n : Nat} (he : encode i = op :: rest)
    (hop : op ≠ 0xCB ∧ takenCycles op = none ∧ primaryCycles op = n) (taken : Bool) : cost i taken = n := by
  obtain ⟨unprefixed, untaken, base⟩ := hop
  simp only [cost, he, unprefixed, if_false, untaken, Option.getD_none, base, ite_self]

/-! ### The encodings by shape (R112, R113) -/

theorem encode_decodeLoadImm (dst : Operand8) (v : Byte) :
    encode (decodeLoadImm dst v) = [0b00#2 ++ operandCode dst ++ 0b110#3, v] := by
  induction dst using operand8_cases <;> rfl

theorem encode_ldPairImm (p : Pair) (v : Word) :
    encode (Instr.ldPairImm p v) = [0b00#2 ++ pairCode p ++ 0b0001#4, lo v, hi v] := by cases p <;> rfl

theorem encode_push (p : StackPair) : encode (Instr.push p) = [0b11#2 ++ stackPairCode p ++ 0b0101#4] := by
  cases p <;> rfl

theorem encode_pop (p : StackPair) : encode (Instr.pop p) = [0b11#2 ++ stackPairCode p ++ 0b0001#4] := by
  cases p <;> rfl

/-! ### The answers by shape -/

section Answers

variable (s : State)

theorem exec_ldRegReg (dst src : Reg8) : exec (Instr.ldRegReg dst src) s = .next (ldRegReg dst src s) := by
  cases dst <;> cases src <;> rfl

theorem exec_ldRegImm (dst : Reg8) (v : Byte) : exec (Instr.ldRegImm dst v) s = .next (ldRegImm dst v s) := by
  cases dst <;> rfl

theorem exec_ldRegAtHL (dst : Reg8) : exec (Instr.ldRegAtHL dst) s = .next (ldRegAtHL dst s) := by cases dst <;> rfl

theorem exec_ldAtHLReg (src : Reg8) : exec (Instr.ldAtHLReg src) s = .next (ldAtHLReg src s) := by cases src <;> rfl

theorem exec_ldPairImm (p : Pair) (v : Word) : exec (Instr.ldPairImm p v) s = .next (ldPairImm p v s) := by
  cases p <;> rfl

theorem exec_push (p : StackPair) : exec (Instr.push p) s = .next (pushPair p s) := by cases p <;> rfl

theorem exec_pop (p : StackPair) : exec (Instr.pop p) s = .next (popPair p s) := by cases p <;> rfl

end Answers

/-! ### Flags as written bytes (10_state.md R34, R35) -/

/-- The flags at their places are the byte of R34, and R35's mask takes none of them. -/
theorem packFlags_masked (z n h c : Bool) : packFlags z n h c &&& 0xF0 = flagByte z n h c := by
  revert z n h c
  decide

theorem State.setFlags_eq (s : State) (z n h c : Bool) : s.setFlags z n h c = withF s (flagByte z n h c) := by
  rw [← packFlags_masked]
  rfl

/-! ### The signed offset of the stack pointer (42_alu16.md R210) -/

/-- Adding the sign-extended byte adds the signed number. -/
theorem add_sext16 (sp : Word) (b : Byte) : sp + sext16 b = BitVec.ofInt 16 (sp.toNat + b.toInt) := by
  rw [BitVec.ofInt_add, BitVec.ofInt_natCast, BitVec.ofNat_toNat, BitVec.setWidth_eq]
  rfl

theorem addSpE8_eq (sp : Word) (b : Byte) :
    addSpE8 sp b =
      (BitVec.ofInt 16 (sp.toNat + b.toInt), decide (16 ≤ sp.toNat % 16 + b.toNat % 16),
        decide (256 ≤ sp.toNat % 256 + b.toNat)) := by
  have spNibble : (sp &&& 0x000F).toNat = sp.toNat % 16 := Nat.and_two_pow_sub_one_eq_mod sp.toNat 4
  have spByte : (sp &&& 0x00FF).toNat = sp.toNat % 256 := Nat.and_two_pow_sub_one_eq_mod sp.toNat 8
  have nibble : (b &&& 0x0F).toNat = b.toNat % 16 := Nat.and_two_pow_sub_one_eq_mod b.toNat 4
  rw [addSpE8, add_sext16, spNibble, spByte, nibble]
  rfl

/-- Settles O13: both forms take `add_sp_e8`, and differ in where the sum goes. -/
theorem stackPointerPlusOffset : Obligations.StackPointerPlusOffset := by
  intro b s
  have sum := addSpE8_eq s.regs.sp b
  refine ⟨?_, ?_, rfl, rfl, fun taken => ⟨cost_of_encode rfl (by decide) taken, cost_of_encode rfl (by decide) taken⟩⟩
  · show Host.Outcome.next (ldHLSpE8 b s) = _
    rw [ldHLSpE8, sum]
    exact congrArg Host.Outcome.next (State.setFlags_eq _ _ _ _ _)
  · show Host.Outcome.next (addSp b s) = _
    rw [addSp, sum]
    exact congrArg Host.Outcome.next (State.setFlags_eq _ _ _ _ _)

/-! ### The byte loads and stores (R140 to R156) -/

/-- Settles O6, by the shape of the load; a register loaded from itself is left as it is. -/
theorem loadRegisterFromRegisterOrImmediate : Obligations.LoadRegisterFromRegisterOrImmediate := by
  intro dst src v s
  have encReg := encode_decodeLoad (.reg dst) (.reg src)
  have encImm := encode_decodeLoadImm (.reg dst) v
  refine ⟨exec_ldRegReg s dst src, ?_, exec_ldRegImm s dst v, encReg, encImm, fun taken => ⟨?_, ?_⟩⟩
  · rintro rfl
    rw [exec_ldRegReg]
    cases dst <;> rfl
  · exact cost_of_encode encReg (by cases dst <;> cases src <;> decide) taken
  · exact cost_of_encode encImm (by cases dst <;> decide) taken

/-- Settles O7: `ldRegAtHL` reads at the HL of the state before the write. -/
theorem loadRegisterFromMemoryAtHL : Obligations.LoadRegisterFromMemoryAtHL := fun dst s =>
  have enc := encode_decodeLoad (.reg dst) .atHL
  ⟨exec_ldRegAtHL s dst, enc, cost_of_encode enc (by cases dst <;> decide)⟩

/-- Settles O8: both stores go to HL, whose code 6 stands in the destination field. -/
theorem storeToMemoryAtHL : Obligations.StoreToMemoryAtHL := fun r v s =>
  have enc := encode_decodeLoad .atHL (.reg r)
  ⟨exec_ldAtHLReg s r, rfl, enc, rfl, fun taken =>
    ⟨cost_of_encode enc (by cases r <;> decide) taken, cost_of_encode rfl (by decide) taken⟩⟩

/-- Settles O9: each form is `ldAAtAddr` of its address. -/
theorem loadAccumulatorFromMemory : Obligations.LoadAccumulatorFromMemory := by
  intro a n s
  refine ⟨rfl, rfl, rfl, rfl, rfl, rfl, rfl, rfl, rfl, rfl, fun taken => ⟨?_, ?_, ?_, ?_, ?_⟩⟩ <;>
    exact cost_of_encode rfl (by decide) taken

/-- Settles O10: each form is `ldAtAddrA` of its address. -/
theorem storeAccumulatorToMemory : Obligations.StoreAccumulatorToMemory := by
  intro a n s
  refine ⟨rfl, rfl, rfl, rfl, rfl, rfl, rfl, rfl, rfl, rfl, fun taken => ⟨?_, ?_, ?_, ?_, ?_⟩⟩ <;>
    exact cost_of_encode rfl (by decide) taken

/-- The store leaves HL, which then moves by the step. -/
theorem ldAtHLStepA_eq (step : Word) (s : State) :
    ldAtHLStepA step s = withHL (s.busWrite (hl s) s.regs.a) (hl s + step) := by
  have unmoved : (s.busWrite (hl s) s.regs.a).reg16 .hl = hl s := by
    rw [State.reg16, State.busWrite_regs]
    rfl
  exact congrArg (fun v => (s.busWrite (hl s) s.regs.a).setReg16 .hl (v + step)) unmoved

/-- Settles O11: a step of -1 subtracts one. -/
theorem loadAndStoreAtMovingHL : Obligations.LoadAndStoreAtMovingHL := by
  intro s
  have down : hl s - 1 = hl s + -1 := BitVec.sub_eq_add_neg _ _
  rw [down]
  refine ⟨congrArg Host.Outcome.next (ldAtHLStepA_eq 1 s), congrArg Host.Outcome.next (ldAtHLStepA_eq (-1) s), rfl, rfl,
    rfl, rfl, rfl, rfl, fun taken => ⟨?_, ?_, ?_, ?_⟩⟩ <;>
    exact cost_of_encode rfl (by decide) taken

/-! ### The 16-bit loads (R157, R159) -/

/-- Settles O12, by the pair loaded. -/
theorem loadPairOrStackPointer : Obligations.LoadPairOrStackPointer := by
  intro p v s
  have enc := encode_ldPairImm p v
  refine ⟨?_, rfl, enc, rfl, fun taken => ⟨?_, cost_of_encode rfl (by decide) taken⟩⟩
  · rw [exec_ldPairImm]
    cases p <;> rfl
  · exact cost_of_encode enc (by cases p <;> decide) taken

/-! ### The stack (R160 to R164) -/

/-- The model's push makes the two stores of R160. -/
theorem State.push16_eq_pushed (s : State) (v : Word) : s.push16 v = pushed s v := s.push16_eq v

/-- Settles O14: a push stores its pair's bytes, and LD (a16),SP those of SP. -/
theorem pushAndStoreStackPointer : Obligations.PushAndStoreStackPointer := by
  intro p a s
  have enc := encode_push p
  refine ⟨?_, rfl, enc, rfl, fun taken => ⟨?_, cost_of_encode rfl (by decide) taken⟩⟩
  · rw [exec_push, pushPair, State.push16_eq_pushed]
    cases p <;> rfl
  · exact cost_of_encode enc (by cases p <;> decide) taken

/-- Settles O15: the two popped bytes go to the pair's two registers. -/
theorem popRegisterPair : Obligations.PopRegisterPair := by
  intro p s
  have enc := encode_pop p
  refine ⟨?_, enc, cost_of_encode enc (by cases p <;> decide)⟩
  rw [exec_pop, popPair, State.popValue]
  cases p <;> simp only [Regs.setStack, Regs.set16, Regs.setFlagByte, hi_pack, lo_pack] <;> rfl

/-! ### A pop after a push (R161) -/

theorem Regs.getStack_setStack (r : Regs) (p : StackPair) (v : Word) :
    (r.setStack p v).getStack p = if p = .af then v &&& 0xFFF0 else v := by
  cases p
  case af => exact r.getStack_setStack_af v
  case bc => exact r.get16_set16 .bc v
  case de => exact r.get16_set16 .de v
  case hl => exact r.get16_set16 .hl v

@[simp] theorem Regs.setStack_sp (r : Regs) (p : StackPair) (v : Word) : (r.setStack p v).sp = r.sp := by
  cases p <;> rfl

theorem exists_plainCell_of_storage {a : Word} : storage a → ∃ k, plainCell a = some k
  | .inl plain => ⟨_, plainCell_of_plainStorage plain⟩
  | .inr echo => ⟨_, plainCell_of_echoRam echo⟩

/-- Neighbours in storage are different cells, echo RAM's too. -/
theorem not_reaches_above (s : State) {a : Word} (h : storage (a - 1)) : ¬reaches s (a - 1) a := by
  unfold storage plainStorage echoRam at h
  unfold reaches echoRam
  rintro (same | ⟨-, above⟩ | ⟨-, below⟩ | ⟨dma, -⟩ | ⟨-, window⟩ | ⟨-, -, window⟩) <;> bv_omega

/-- Two neighbouring bytes stored downwards in storage are both read back. -/
theorem State.busRead_storedDown {s : State} (hs : s.mem.wf = true) {a : Word} (high : storage a)
    (low : storage (a - 1)) (v w : Byte) :
    ((s.busWrite a v).busWrite (a - 1) w).busRead a = v ∧ ((s.busWrite a v).busWrite (a - 1) w).busRead (a - 1) = w := by
  have wf := State.busWrite_wf hs a v
  obtain ⟨k, hk⟩ := exists_plainCell_of_storage high
  obtain ⟨j, hj⟩ := exists_plainCell_of_storage low
  exact ⟨(State.busRead_busWrite_other wf w (not_reaches_above _ low)).trans
    (State.busRead_busWrite_sameCell hs hk hk v), State.busRead_busWrite_sameCell wf hj hj w⟩

/-- A push on a stack in storage leaves its two bytes there. -/
theorem busRead_pushed {s : State} (hs : s.mem.wf = true) (high : storage (s.regs.sp - 1))
    (low : storage (s.regs.sp - 2)) (v : Word) :
    (pushed s v).busRead (s.regs.sp - 1) = highByte v ∧ (pushed s v).busRead (s.regs.sp - 2) = lowByte v := by
  have twice : s.regs.sp - 2 = s.regs.sp - 1 - 1 := by rw [BitVec.sub_sub]; rfl
  unfold pushed
  rw [twice] at low ⊢
  exact State.busRead_storedDown (s := s.setSp (s.regs.sp - 1 - 1)) hs high low _ _

/-- Settles O39: the pop reads the two bytes the push stored. -/
theorem popAfterPushRestores : Obligations.PopAfterPushRestores := by
  intro p q s t u hs hhigh hlow hpush hpop
  rw [exec_push] at hpush
  rw [exec_pop] at hpop
  cases hpush
  cases hpop
  obtain ⟨high, low⟩ := busRead_pushed hs hhigh hlow (s.regs.getStack p)
  rw [← State.push16_eq_pushed] at high low
  have sp : (pushPair p s).regs.sp = s.regs.sp - 2 := congrArg Regs.sp (s.push16_regs _)
  have above : s.regs.sp - 2 + 1 = s.regs.sp - 1 := by bv_omega
  have value : (pushPair p s).popValue = s.regs.getStack p := by
    rw [State.popValue, sp, above, pushPair, high, low]
    exact pack_hi_lo _
  refine ⟨?_, ?_, sp, high, low⟩
  · rw [popPair, Regs.getStack_setStack, value]
  · rw [popPair, Regs.setStack_sp, State.popSp_regs, sp, BitVec.sub_add_cancel]

end Sys2Proof.Machine


/-! SUPPORT. The 8-bit arithmetic and logic instructions (41_alu8.md R180 to R198): what each shape answers, its encoding
and its cost, the adder and the subtractor over exact integers, and the decimal adjustment of packed BCD. -/

namespace Sys2Proof.Machine

open Sys2Proof.Claims

/-! ### The answers, the encodings and the costs by shape -/

theorem State.readOperand_eq (s : State) (o : Operand8) : s.readOperand o = operand s o := by cases o <;> rfl

theorem State.writeOperand_eq (s : State) (o : Operand8) (v : Byte) : s.writeOperand o v = putOperand s o v := by
  cases o <;> rfl

theorem exec_alu (op : AluOp) (o : Operand8) (s : State) :
    exec (Instr.alu op o) s = .next (aluToA op (operand s o) s) := by
  rw [← s.readOperand_eq]
  cases op <;> induction o using operand8_cases <;> rfl

theorem exec_inc8 (o : Operand8) (s : State) : exec (Instr.inc8 o) s = .next (incOperand o s) := by
  induction o using operand8_cases <;> rfl

theorem exec_dec8 (o : Operand8) (s : State) : exec (Instr.dec8 o) s = .next (decOperand o s) := by
  induction o using operand8_cases <;> rfl

theorem encode_inc8 (o : Operand8) : encode (Instr.inc8 o) = [0b00#2 ++ operandCode o ++ 0b100#3] := by
  induction o using operand8_cases <;> rfl

theorem encode_dec8 (o : Operand8) : encode (Instr.dec8 o) = [0b00#2 ++ operandCode o ++ 0b101#3] := by
  induction o using operand8_cases <;> rfl

/-- The source at HL costs one more memory access (R118, R119). -/
theorem cost_alu (op : AluOp) (o : Operand8) (taken : Bool) :
    cost (Instr.alu op o) taken = if o = .atHL then 8 else 4 :=
  cost_of_encode (encode_alu op o) (by cases op <;> induction o using operand8_cases <;> decide) taken

/-! ### An ALU result in the state -/

/-- F, as an ALU result's four flags make it. -/
def AluOut.flags (o : AluOut) : Byte := flagByte o.z o.n o.h o.c

theorem State.setAccumulator_eq (s : State) (o : AluOut) : s.setAccumulator o = withAF s o.res o.flags :=
  (s.setReg8 .a o.res).setFlags_eq o.z o.n o.h o.c

theorem State.writeBack_eq (s : State) (dst : Operand8) (o : AluOut) :
    s.writeBack dst o = withF (putOperand s dst o.res) o.flags := by
  rw [State.writeBack, State.writeOperand_eq, State.setFlags_eq]
  rfl

/-- Each flag is read back from its place in F (10_state.md R34). -/
theorem flagByte_bits (z n h c : Bool) :
    (flagByte z n h c).getLsbD 6 = n ∧ (flagByte z n h c).getLsbD 5 = h ∧ (flagByte z n h c).getLsbD 4 = c := by
  revert z n h c
  decide

/-! ### The low nibble -/

theorem lowNibble_toNat (v : Byte) : (v &&& 0x0F).toNat = v.toNat % 16 := Nat.and_two_pow_sub_one_eq_mod v.toNat 4

theorem lowNibble_beq (v k : Byte) : (v &&& 0x0F == k) = decide (v.toNat % 16 = k.toNat) := by
  rw [beq_eq_decide, ← lowNibble_toNat]
  exact decide_eq_decide.2 BitVec.toNat_inj.symm

/-! ### The adder and the subtractor (R181, R182) -/

/-- The reduced exact sum is the sum of the reduced numbers. -/
theorem add8_eq (a v : Byte) (cin : Bool) :
    add8 a v cin =
      { res := a + v + BitVec.ofNat 8 cin.toNat
        z := decide (a + v + BitVec.ofNat 8 cin.toNat = 0)
        n := false
        h := decide (16 ≤ a.toNat % 16 + v.toNat % 16 + cin.toNat)
        c := decide (256 ≤ a.toNat + v.toNat + cin.toNat) } := by
  have sum : BitVec.ofNat 8 (a.toNat + v.toNat + cin.toNat) = a + v + BitVec.ofNat 8 cin.toNat := by
    rw [BitVec.ofNat_add, BitVec.ofNat_add, BitVec.ofNat_toNat, BitVec.ofNat_toNat, BitVec.setWidth_eq,
      BitVec.setWidth_eq]
  rw [add8, sum, beq_eq_decide, lowNibble_toNat, lowNibble_toNat]
  rfl

/-- The reduced exact difference is the difference of the reduced numbers. -/
theorem sub8_eq (a v : Byte) (cin : Bool) :
    sub8 a v cin =
      { res := a - v - BitVec.ofNat 8 cin.toNat
        z := decide (a - v - BitVec.ofNat 8 cin.toNat = 0)
        n := true
        h := decide (a.toNat % 16 < v.toNat % 16 + cin.toNat)
        c := decide (a.toNat < v.toNat + cin.toNat) } := by
  have difference :
      BitVec.ofInt 8 ((a.toNat : Int) - v.toNat - cin.toNat) = a - v - BitVec.ofNat 8 cin.toNat := by
    rw [Int.sub_eq_add_neg, Int.sub_eq_add_neg, BitVec.ofInt_add, BitVec.ofInt_add, BitVec.ofInt_neg, BitVec.ofInt_neg,
      BitVec.ofInt_natCast, BitVec.ofInt_natCast, BitVec.ofInt_natCast, BitVec.ofNat_toNat, BitVec.ofNat_toNat,
      BitVec.setWidth_eq, BitVec.setWidth_eq, ← BitVec.sub_eq_add_neg, ← BitVec.sub_eq_add_neg]
  rw [sub8, difference, beq_eq_decide, lowNibble_toNat, lowNibble_toNat]

theorem adds_of_exec {i : Instr} {v : Byte} {cin : Bool} {s : State}
    (h : exec i s = .next (s.setAccumulator (add8 s.regs.a v cin))) : adds i v cin s := by
  rw [State.setAccumulator_eq, add8_eq] at h
  exact h

theorem sub8_flags (a v : Byte) (cin : Bool) : (sub8 a v cin).flags = subFlags a v cin := by
  rw [sub8_eq]
  rfl

theorem subtracts_of_exec {i : Instr} {v : Byte} {cin : Bool} {s : State}
    (h : exec i s = .next (s.setAccumulator (sub8 s.regs.a v cin))) : subtracts i v cin s := by
  rw [State.setAccumulator_eq, sub8_flags, sub8_eq] at h
  exact h

/-- CP writes the subtractor's flags and leaves A (R190). -/
theorem cpToA_eq (v : Byte) (s : State) : cpToA v s = withF s (subFlags s.regs.a v false) := by
  rw [← sub8_flags]
  exact s.setFlags_eq _ _ _ _

/-- Settles O16: ADD and ADC store what the adder gives, without and with the carry flag. -/
theorem addAndAddWithCarry : Obligations.AddAndAddWithCarry := by
  intro o d s
  refine ⟨adds_of_exec (exec_alu .add o s), adds_of_exec rfl, adds_of_exec (exec_alu .adc o s), adds_of_exec rfl,
    encode_alu .add o, rfl, encode_alu .adc o, rfl,
    fun taken => ⟨cost_alu .add o taken, ?_, cost_alu .adc o taken, ?_⟩⟩ <;>
    exact cost_of_encode rfl (by decide) taken

/-- Settles O17: SUB and SBC store what the subtractor gives, and CP only its flags. -/
theorem subtractAndCompare : Obligations.SubtractAndCompare := by
  intro o d s
  refine ⟨subtracts_of_exec (exec_alu .sub o s), subtracts_of_exec rfl, subtracts_of_exec (exec_alu .sbc o s),
    subtracts_of_exec rfl, (exec_alu .cp o s).trans (congrArg _ (cpToA_eq _ s)), congrArg _ (cpToA_eq d s),
    encode_alu .sub o, rfl, encode_alu .sbc o, rfl, encode_alu .cp o, rfl,
    fun taken => ⟨fun op _ => cost_alu op o taken, ?_, ?_, ?_⟩⟩ <;>
    exact cost_of_encode rfl (by decide) taken

/-! ### The logical operations (R187 to R189) -/

/-- All three store a result whose Z is tested and whose other flags are constants. -/
theorem logic_of_exec {i : Instr} {res : Byte} {h : Bool} {s : State}
    (e : exec i s = .next (s.setAccumulator { res := res, z := res == 0, n := false, h := h, c := false })) :
    logic i res h s := by
  rw [State.setAccumulator_eq, beq_eq_decide] at e
  exact e

/-- Settles O18, by the one shape of the three operations. -/
theorem logicalOperations : Obligations.LogicalOperations := by
  intro o d s
  refine ⟨logic_of_exec (exec_alu .and o s), logic_of_exec rfl, logic_of_exec (exec_alu .xor o s), logic_of_exec rfl,
    logic_of_exec (exec_alu .or o s), logic_of_exec rfl, encode_alu .and o, rfl, encode_alu .xor o, rfl,
    encode_alu .or o, rfl, fun taken => ⟨fun op _ => cost_alu op o taken, ?_, ?_, ?_⟩⟩ <;>
    exact cost_of_encode rfl (by decide) taken

/-! ### INC and DEC (R191 to R194) -/

theorem inc8_flags (v : Byte) (c : Bool) :
    (inc8 v c).flags = flagByte (decide (v + 1 = 0)) false (decide ((v + 1).toNat % 16 = 0)) c := by
  rw [AluOut.flags, inc8, beq_eq_decide, lowNibble_beq]
  rfl

theorem dec8_flags (v : Byte) (c : Bool) :
    (dec8 v c).flags = flagByte (decide (v - 1 = 0)) true (decide ((v - 1).toNat % 16 = 15)) c := by
  rw [AluOut.flags, dec8, beq_eq_decide, lowNibble_beq]
  rfl

/-- Settles O19: both write back what they make of the operand, with the old carry. -/
theorem incrementAndDecrement : Obligations.IncrementAndDecrement := by
  intro o s
  refine ⟨?_, ?_, encode_inc8 o, encode_dec8 o, fun taken => ⟨?_, ?_⟩⟩
  · rw [exec_inc8, incOperand, State.writeBack_eq, State.readOperand_eq, inc8_flags]
    rfl
  · rw [exec_dec8, decOperand, State.writeBack_eq, State.readOperand_eq, dec8_flags]
    rfl
  · exact cost_of_encode (encode_inc8 o) (by induction o using operand8_cases <;> decide) taken
  · exact cost_of_encode (encode_dec8 o) (by induction o using operand8_cases <;> decide) taken

/-! ### DAA (R195) -/

/-- The low and the high correction share no bit, so that OR adds them. -/
theorem corrections_or (low high : Bool) :
    ((if low then 0x06 else 0x00) ||| (if high then 0x60 else 0x00) : Byte) =
      (if low then 0x06 else 0x00) + (if high then 0x60 else 0x00) := by
  revert low high
  decide

theorem daaAfterAdd_eq (a : Byte) (h c : Bool) :
    daaAfterAdd a h c =
      { res := (decimal a false h c).1
        z := decide ((decimal a false h c).1 = 0)
        n := false
        h := false
        c := (decimal a false h c).2 } := by
  have res :
      a + ((if h || decide (9 < a.toNat % 16) then 0x06 else 0x00) |||
        (if c || decide (0x99 < a.toNat) then 0x60 else 0x00)) = (decimal a false h c).1 := by
    rw [corrections_or, ← BitVec.add_assoc]
    simp only [decimal, Bool.or_eq_true, decide_eq_true_eq, Bool.false_eq_true, if_false]
  rw [daaAfterAdd, lowNibble_toNat, beq_eq_decide, ← res]
  rfl

theorem daaAfterSub_eq (a : Byte) (h c : Bool) :
    daaAfterSub a h c =
      { res := (decimal a true h c).1
        z := decide ((decimal a true h c).1 = 0)
        n := true
        h := false
        c := (decimal a true h c).2 } := by
  rw [daaAfterSub, beq_eq_decide, corrections_or, ← BitVec.sub_sub]
  rfl

/-- The model's adjustment is that of R195, in both branches. -/
theorem daa8_eq (a : Byte) (n h c : Bool) :
    daa8 a n h c =
      { res := (decimal a n h c).1
        z := decide ((decimal a n h c).1 = 0)
        n := n
        h := false
        c := (decimal a n h c).2 } := by
  cases n
  · exact daaAfterAdd_eq a h c
  · exact daaAfterSub_eq a h c

theorem daaA_eq (s : State) :
    daaA s =
      let out := decimal s.regs.a (subtract s) (halfCarry s) (carry s)
      withAF s out.1 (flagByte (decide (out.1 = 0)) (subtract s) false out.2) := by
  rw [daaA, State.setAccumulator_eq, daa8_eq]
  rfl

/-- Settles O20: DAA stores what `decimal` makes of A and the flags. -/
theorem decimalAdjust : Obligations.DecimalAdjust := fun s =>
  ⟨congrArg Host.Outcome.next (daaA_eq s), rfl, cost_of_encode rfl (by decide)⟩

/-! ### Packed BCD (R184, R186, R195) -/

theorem bcd_toNat {n : Nat} (h : n < 100) : (bcd n).toNat = n / 10 * 16 + n % 10 :=
  Nat.mod_eq_of_lt (by omega)

/-- A correction as a number. -/
theorem correction_toNat (p : Prop) [Decidable p] :
    (if p then 0x06 else 0 : Byte).toNat = (if p then 6 else 0) ∧
      (if p then 0x60 else 0 : Byte).toNat = if p then 96 else 0 :=
  ⟨apply_ite BitVec.toNat p 0x06 0, apply_ite BitVec.toNat p 0x60 0⟩

/-- The two tests of the addition branch are those of the decimal digits: the low correction is made when the low digits
carry, the high one when the sum passes 99. -/
theorem decimal_add8_bcd {x y : Nat} (hx : x < 100) (hy : y < 100) (cin : Bool) :
    let o := add8 (bcd x) (bcd y) cin
    decimal o.res false o.h o.c = (bcd ((x + y + cin.toNat) % 100), decide (100 ≤ x + y + cin.toNat)) := by
  intro o
  have hc : cin.toNat < 2 := cin.toNat_lt
  have hr : o.res.toNat = (x / 10 * 16 + x % 10 + (y / 10 * 16 + y % 10) + cin.toNat) % 256 := by
    rw [← bcd_toNat hx, ← bcd_toNat hy]
    exact BitVec.toNat_ofNat ..
  have lowCarries : o.h = true ∨ 9 < o.res.toNat % 16 ↔ 10 ≤ x % 10 + y % 10 + cin.toNat := by
    rw [hr]
    simp only [o, add8_eq, decide_eq_true_eq, bcd_toNat hx, bcd_toNat hy]
    omega
  have passes99 : o.c = true ∨ 0x99 < o.res.toNat ↔ 100 ≤ x + y + cin.toNat := by
    rw [hr]
    simp only [o, add8_eq, decide_eq_true_eq, bcd_toNat hx, bcd_toNat hy]
    have wrapped : ∀ sum < 512, 256 ≤ sum ∨ 0x99 < sum % 256 ↔ 0x99 < sum := by omega
    rw [wrapped _ (by omega)]
    omega
  have carryOut : (o.c || decide (0x99 < o.res.toNat)) = decide (100 ≤ x + y + cin.toNat) := by
    rw [← decide_eq_decide.2 passes99, Bool.decide_or, Bool.decide_eq_true]
  simp only [decimal, Bool.false_eq_true, if_false, lowCarries, passes99, carryOut]
  refine congrArg (·, _) (BitVec.eq_of_toNat_eq ?_)
  rw [BitVec.toNat_add, BitVec.toNat_add, hr, bcd_toNat (Nat.mod_lt _ (by decide)), (correction_toNat _).1,
    (correction_toNat _).2]
  split <;> split <;> omega

/-- The two borrows of the subtractor are those of the decimal digits. -/
theorem decimal_sub8_bcd {x y : Nat} (hx : x < 100) (hy : y < 100) (cin : Bool) :
    let o := sub8 (bcd x) (bcd y) cin
    decimal o.res true o.h o.c = (bcd ((x + 100 - y - cin.toNat) % 100), decide (x < y + cin.toNat)) := by
  intro o
  have hc : cin.toNat < 2 := cin.toNat_lt
  have hr : o.res.toNat = (x / 10 * 16 + x % 10 + 512 - (y / 10 * 16 + y % 10) - cin.toNat) % 256 := by
    simp only [o, sub8_eq, BitVec.toNat_sub, BitVec.toNat_ofNat, bcd_toNat hx, bcd_toNat hy]
    omega
  have lowBorrows : o.h = decide (x % 10 < y % 10 + cin.toNat) := by
    simp only [o, sub8_eq, decide_eq_decide, bcd_toNat hx, bcd_toNat hy]
    omega
  have borrows : o.c = decide (x < y + cin.toNat) := by
    simp only [o, sub8_eq, decide_eq_decide, bcd_toNat hx, bcd_toNat hy]
    omega
  simp only [decimal, if_true, lowBorrows, borrows, decide_eq_true_eq]
  refine congrArg (·, _) (BitVec.eq_of_toNat_eq ?_)
  rw [BitVec.toNat_sub, BitVec.toNat_sub, hr, bcd_toNat (Nat.mod_lt _ (by decide)), (correction_toNat _).1,
    (correction_toNat _).2]
  split <;> split <;> omega

/-- DAA after an ALU operation on A adjusts that operation's result by its flags. -/
theorem daaA_setAccumulator (s : State) (o : AluOut) :
    (daaA (s.setAccumulator o)).regs.a = (decimal o.res o.n o.h o.c).1 ∧
      carry (daaA (s.setAccumulator o)) = (decimal o.res o.n o.h o.c).2 := by
  obtain ⟨n, h, c⟩ := flagByte_bits o.z o.n o.h o.c
  rw [daaA_eq, State.setAccumulator_eq]
  simp only [withAF, subtract, halfCarry, carry, AluOut.flags, n, h, c]
  exact ⟨trivial, (flagByte_bits _ _ _ _).2.2⟩

theorem daa_after_accumulator {i : Instr} {s t u : State} {o : AluOut} {r : Byte × Bool}
    (hi : exec i s = .next (s.setAccumulator o)) (hr : decimal o.res o.n o.h o.c = r) (ht : exec i s = .next t)
    (hu : exec .daa t = .next u) : u.regs.a = r.1 ∧ carry u = r.2 := by
  cases hi.symm.trans ht
  cases hu
  rw [← hr]
  exact daaA_setAccumulator s o

/-- Settles O21: DAA adjusts what the adder or the subtractor left. -/
theorem decimalAdjustGivesPackedBcd : Obligations.DecimalAdjustGivesPackedBcd := by
  intro x y s t u hx hy ha
  have sum := decimal_add8_bcd hx hy (carry s)
  have difference := decimal_sub8_bcd hx hy (carry s)
  rw [← ha] at sum difference
  exact ⟨daa_after_accumulator (o := add8 s.regs.a (bcd y) (carry s)) rfl sum,
    daa_after_accumulator (o := sub8 s.regs.a (bcd y) (carry s)) rfl difference⟩

/-! ### CPL, SCF and CCF (R196 to R198) -/

theorem cplA_eq (s : State) : cplA s = withAF s (255 - s.regs.a) (flagByte (zero s) true true (carry s)) := by
  have complement : 255 - s.regs.a = ~~~s.regs.a := BitVec.allOnes_sub_eq_not s.regs.a
  rw [complement, cplA, State.setFlags_eq]
  rfl

/-- Settles O22: the flags that are written, at their places in F. -/
theorem complementAndCarryFlag : Obligations.ComplementAndCarryFlag := by
  intro s
  refine ⟨congrArg Host.Outcome.next (cplA_eq s), congrArg Host.Outcome.next (s.setFlags_eq _ _ _ _),
    congrArg Host.Outcome.next (s.setFlags_eq _ _ _ _), rfl, rfl, rfl, fun taken => ⟨?_, ?_, ?_⟩⟩ <;>
    exact cost_of_encode rfl (by decide) taken

end Sys2Proof.Machine


/-! SUPPORT. The 16-bit arithmetic instructions (42_alu16.md R211 to R213): what each shape answers, its encoding and
its cost, and the 16-bit adder over exact integers. -/

namespace Sys2Proof.Machine

open Sys2Proof.Claims

/-! ### The answers, the encodings and the costs by shape -/

theorem exec_addHL (p : Pair) (s : State) : exec (Instr.addHL p) s = .next (addHL p s) := by cases p <;> rfl

theorem exec_incPair (p : Pair) (s : State) : exec (Instr.incPair p) s = .next (incPair p s) := by cases p <;> rfl

theorem exec_decPair (p : Pair) (s : State) : exec (Instr.decPair p) s = .next (decPair p s) := by cases p <;> rfl

theorem encode_addHL (p : Pair) : encode (Instr.addHL p) = [0b00#2 ++ pairCode p ++ 0b1001#4] := by cases p <;> rfl

theorem encode_incPair (p : Pair) : encode (Instr.incPair p) = [0b00#2 ++ pairCode p ++ 0b0011#4] := by cases p <;> rfl

theorem encode_decPair (p : Pair) : encode (Instr.decPair p) = [0b00#2 ++ pairCode p ++ 0b1011#4] := by cases p <;> rfl

/-! ### The 16-bit adder (R211) -/

/-- H and C are the carries out of bits 11 and 15. -/
theorem addHl16_eq (a b : Word) :
    addHl16 a b =
      (a + b, decide (4096 ≤ a.toNat % 4096 + b.toNat % 4096), decide (65536 ≤ a.toNat + b.toNat)) := by
  have sum : BitVec.ofNat 16 (a.toNat + b.toNat) = a + b := (BitVec.add_def a b).symm
  have low12 (v : Word) : (v &&& 0x0FFF).toNat = v.toNat % 4096 := Nat.and_two_pow_sub_one_eq_mod v.toNat 12
  rw [addHl16, sum, low12, low12]
  rfl

theorem addHL_eq (p : Pair) (s : State) :
    addHL p s =
      withF (withHL s (hl s + s.regs.get16 p))
        (flagByte false false (decide (4096 ≤ (hl s).toNat % 4096 + (s.regs.get16 p).toNat % 4096))
          (decide (65536 ≤ (hl s).toNat + (s.regs.get16 p).toNat))) := by
  have sum : addHl16 (s.reg16 .hl) (s.reg16 p) = _ := addHl16_eq (hl s) (s.regs.get16 p)
  rw [addHL, sum]
  exact State.setFlags_eq _ _ _ _ _

/-- Settles O23: ADD HL,rr takes the 16-bit adder's sum and carries, and INC and DEC write the pair alone. -/
theorem sixteenBitArithmetic : Obligations.SixteenBitArithmetic := by
  intro p s
  refine ⟨(exec_addHL p s).trans (congrArg Host.Outcome.next (addHL_eq p s)), exec_incPair p s, exec_decPair p s,
    encode_addHL p, encode_incPair p, encode_decPair p, fun taken => ⟨?_, ?_, ?_⟩⟩
  · exact cost_of_encode (encode_addHL p) (by cases p <;> decide) taken
  · exact cost_of_encode (encode_incPair p) (by cases p <;> decide) taken
  · exact cost_of_encode (encode_decPair p) (by cases p <;> decide) taken

end Sys2Proof.Machine


/-! SUPPORT. The rotates, the shifts and the bit operations (43_rotate_bit.md R225 to R240): the shifts by the bits they
are made of, and what each shape of instruction answers, its encoding and its cost. -/

namespace Sys2Proof.Machine

open Sys2Proof.Claims

/-! ### The costs of the CB opcodes (30_encoding.md R121) -/

theorem cost_of_encode_cb {i : Instr} {op2 : Byte} (he : encode i = [0xCB, op2]) (taken : Bool) :
    cost i taken = cbCycles op2 := by
  rw [cost, he]
  rfl

/-- At HL, BIT (quarter 1) only reads the operand, and the other quarters also write it back. -/
theorem cbCycles_fields (x : BitVec 2) (y : BitVec 3) (o : Operand8) :
    cbCycles (x ++ y ++ operandCode o) = if o = .atHL then if x.toNat = 1 then 12 else 16 else 8 := by
  have atHL : (operandCode o).toNat = 6 ↔ o = .atHL := by induction o using operand8_cases <;> decide
  simp only [cbCycles, fields_x, fields_z, ne_eq, ite_not, atHL]

theorem cost_cb {i : Instr} {x : BitVec 2} {y : BitVec 3} {o : Operand8}
    (he : encode i = [0xCB, x ++ y ++ operandCode o]) (taken : Bool) :
    cost i taken = if o = .atHL then if x.toNat = 1 then 12 else 16 else 8 :=
  (cost_of_encode_cb he taken).trans (cbCycles_fields x y o)

/-! ### The shifts, by the bits they are made of -/

theorem shiftLeft_one (v : Byte) : v <<< 1 = v.extractLsb' 0 7 ++ 0#1 :=
  BitVec.shiftLeft_eq_concat_of_lt (by decide)

theorem ushiftRight_one (v : Byte) : v >>> 1 = 0#1 ++ v.extractLsb' 1 7 :=
  BitVec.ushiftRight_eq_extractLsb'_of_lt (by decide)

/-- A bit brought in at the right of a left shift. -/
theorem shiftLeft_or_carryByte (v : Byte) (c : Bool) :
    v <<< 1 ||| carryByte c = v.extractLsb' 0 7 ++ BitVec.ofBool c := by
  have incoming : carryByte c = 0#7 ++ BitVec.ofBool c := by cases c <;> rfl
  rw [shiftLeft_one, incoming, BitVec.or_append, BitVec.or_zero, BitVec.zero_or]

/-- A bit brought in at the left of a right shift. -/
theorem ushiftRight_or_carryByte (v : Byte) (c : Bool) :
    v >>> 1 ||| carryByte c <<< 7 = BitVec.ofBool c ++ v.extractLsb' 1 7 := by
  have incoming : carryByte c <<< 7 = BitVec.ofBool c ++ 0#7 := by cases c <;> rfl
  rw [ushiftRight_one, incoming, BitVec.or_append, BitVec.or_zero, BitVec.zero_or]

/-- The bit SRA keeps is the one a rotate would bring in (R235). -/
theorem and_0x80 (v : Byte) : v &&& (0x80 : Byte) = carryByte (bit v 7) <<< 7 := by
  have kept : v &&& (0x80 : Byte) = if bit v 7 then 0x80 else 0 := BitVec.and_twoPow v 7
  rw [kept]
  cases bit v 7 <;> rfl

/-- The two nibbles, each shifted into the other's place (R236). -/
theorem shiftLeft_four_or_ushiftRight_four (v : Byte) :
    v <<< 4 ||| v >>> 4 = v.extractLsb' 0 4 ++ v.extractLsb' 4 4 := by
  have low : v <<< 4 = v.extractLsb' 0 4 ++ 0#4 := BitVec.shiftLeft_eq_concat_of_lt (by decide)
  have high : v >>> 4 = 0#4 ++ v.extractLsb' 4 4 := BitVec.ushiftRight_eq_extractLsb'_of_lt (by decide)
  rw [low, high, BitVec.or_append, BitVec.or_zero, BitVec.zero_or]

/-! ### The eight operations of the rot column (R225 to R237) -/

/-- The model's byte operation of each entry of the rot column. -/
def rotate8 : RotOp → Byte → Bool → Byte × Bool
  | .rlc, v, _ => rlc8 v
  | .rrc, v, _ => rrc8 v
  | .rl, v, c => rl8 v c
  | .rr, v, c => rr8 v c
  | .sla, v, _ => sla8 v
  | .sra, v, _ => sra8 v
  | .swap, v, _ => swap8 v
  | .srl, v, _ => srl8 v

theorem rotateOperand_eq_writeBack (op : RotOp) (o : Operand8) (s : State) :
    rotateOperand op o s = s.writeBack o (rotateOut (rotate8 op (s.readOperand o) s.flagC)) := by
  cases op <;> rfl

/-- Each operation gives the bits the spec's rule does. -/
theorem rotate8_eq_rotated (op : RotOp) (v : Byte) (c : Bool) : rotate8 op v c = rotated op v c := by
  refine Prod.ext ?_ (by cases op <;> rfl)
  cases op with
  | rlc => exact shiftLeft_or_carryByte v (bit v 7)
  | rrc => exact ushiftRight_or_carryByte v (bit v 0)
  | rl => exact shiftLeft_or_carryByte v c
  | rr => exact ushiftRight_or_carryByte v c
  | sla => exact shiftLeft_one v
  | sra => exact (congrArg (v >>> 1 ||| ·) (and_0x80 v)).trans (ushiftRight_or_carryByte v (bit v 7))
  | swap => exact shiftLeft_four_or_ushiftRight_four v
  | srl => exact ushiftRight_one v

/-! ### The answers by shape -/

section Answers

variable (o : Operand8) (s : State)

theorem exec_rotate (op : RotOp) : exec (Instr.rotate op o) s = .next (rotateOperand op o s) := by
  cases op <;> induction o using operand8_cases <;> rfl

theorem exec_bitTest (b : Field3) : exec (Instr.bitTest b o) s = .next (bitOperand b o s) := by
  cases b <;> induction o using operand8_cases <;> rfl

theorem exec_bitReset (b : Field3) : exec (Instr.bitReset b o) s = .next (resOperand b o s) := by
  cases b <;> induction o using operand8_cases <;> rfl

theorem exec_bitSet (b : Field3) : exec (Instr.bitSet b o) s = .next (setOperand b o s) := by
  cases b <;> induction o using operand8_cases <;> rfl

end Answers

/-! ### The rotates and shifts (R225 to R237) -/

theorem rotateOperand_eq (op : RotOp) (o : Operand8) (s : State) :
    rotateOperand op o s =
      let out := rotated op (operand s o) (carry s)
      withF (putOperand s o out.1) (flagByte (decide (out.1 = 0)) false false out.2) := by
  rw [rotateOperand_eq_writeBack, State.writeBack_eq, rotate8_eq_rotated, State.readOperand_eq, AluOut.flags, rotateOut,
    beq_eq_decide]
  rfl

/-- Settles O25: each operation writes back its bits and the flags they give. -/
theorem rotatesAndShifts : Obligations.RotatesAndShifts := by
  intro op o s
  have enc := encode_rotate op o
  exact ⟨(exec_rotate o s op).trans (congrArg Host.Outcome.next (rotateOperand_eq op o s)), enc, cost_cb enc⟩

/-- An accumulator rotate takes A as an operation of the rot column does, and forces Z to 0. -/
theorem rotatesA_of_exec {i : Instr} {op : RotOp} {s : State}
    (h : exec i s = .next (s.setAccumulator (rotateAOut (rotate8 op s.regs.a s.flagC)))) :
    let out := rotated op s.regs.a (carry s)
    exec i s = .next (withAF s out.1 (flagByte false false false out.2)) := by
  rw [State.setAccumulator_eq, rotate8_eq_rotated] at h
  exact h

/-- Settles O24, by the operation of the rot column each shares its bits with. -/
theorem accumulatorRotates : Obligations.AccumulatorRotates := by
  intro s
  refine ⟨rotatesA_of_exec (op := .rlc) rfl, rotatesA_of_exec (op := .rrc) rfl, rotatesA_of_exec (op := .rl) rfl,
    rotatesA_of_exec (op := .rr) rfl, rfl, rfl, rfl, rfl, fun taken => ⟨?_, ?_, ?_, ?_⟩⟩ <;>
    exact cost_of_encode rfl (by decide) taken

/-! ### The bit operations (R238 to R240) -/

theorem bitOperand_eq (b : Field3) (o : Operand8) (s : State) :
    bitOperand b o s = withF s (flagByte (!(operand s o).getLsbD b.toNat) false true (carry s)) := by
  rw [bitOperand, State.setFlags_eq, State.readOperand_eq]
  rfl

theorem resOperand_eq (b : Field3) (o : Operand8) (s : State) :
    resOperand b o s = putOperand s o (operand s o &&& ~~~(BitVec.twoPow 8 b.toNat)) := by
  rw [resOperand, State.writeOperand_eq, State.readOperand_eq]
  rfl

theorem setOperand_eq (b : Field3) (o : Operand8) (s : State) :
    setOperand b o s = putOperand s o (operand s o ||| BitVec.twoPow 8 b.toNat) := by
  rw [setOperand, State.writeOperand_eq, State.readOperand_eq]
  rfl

/-- Settles O26: BIT writes flags only, and RES and SET their operand only. -/
theorem bitTestResetSet : Obligations.BitTestResetSet := by
  intro b o s
  have encBit := encode_bitTest b o
  have encRes := encode_bitReset b o
  have encSet := encode_bitSet b o
  exact ⟨(exec_bitTest o s b).trans (congrArg Host.Outcome.next (bitOperand_eq b o s)),
    (exec_bitReset o s b).trans (congrArg Host.Outcome.next (resOperand_eq b o s)),
    (exec_bitSet o s b).trans (congrArg Host.Outcome.next (setOperand_eq b o s)), encBit, encRes, encSet,
    fun taken => ⟨cost_cb encBit taken, cost_cb encRes taken, cost_cb encSet taken⟩⟩

end Sys2Proof.Machine


/-! SUPPORT. The control transfers (44_control.md R250 to R260): the taken costs, what each shape of instruction answers
and its encoding, and the interrupt serviced once IME is set (60_exceptions.md R310, R312). -/

namespace Sys2Proof.Machine

open Sys2Proof.Claims

/-! ### The costs of the conditional opcodes (30_encoding.md R119) -/

/-- An unprefixed opcode with a taken cost takes it or its base cost. -/
theorem cost_of_encode_conditional {i : Instr} {op : Byte} {rest : List Byte} {m n : Nat} (he : encode i = op :: rest)
    (hop : op ≠ 0xCB ∧ takenCycles op = some m ∧ primaryCycles op = n) (taken : Bool) :
    cost i taken = if taken then m else n := by
  obtain ⟨unprefixed, conditional, base⟩ := hop
  simp only [cost, he, unprefixed, if_false, conditional, Option.getD_some, base]

/-! ### The encodings by shape (R112, R113) -/

theorem encode_jpIf (cc : Cond) (a : Word) :
    encode (Instr.jpIf cc a) = [0b110#3 ++ condCode cc ++ 0b010#3, lo a, hi a] := by cases cc <;> rfl

theorem encode_jrIf (cc : Cond) (b : Byte) : encode (Instr.jrIf cc b) = [0b001#3 ++ condCode cc ++ 0b000#3, b] := by
  cases cc <;> rfl

theorem encode_callIf (cc : Cond) (a : Word) :
    encode (Instr.callIf cc a) = [0b110#3 ++ condCode cc ++ 0b100#3, lo a, hi a] := by cases cc <;> rfl

theorem encode_retIf (cc : Cond) : encode (Instr.retIf cc) = [0b110#3 ++ condCode cc ++ 0b000#3] := by cases cc <;> rfl

theorem encode_rst (y : Field3) : encode (Instr.rst y) = [0b11#2 ++ fieldCode y ++ 0b111#3] := by cases y <;> rfl

/-! ### The answers by shape -/

section Answers

variable (cc : Cond) (a : Word) (s : State)

theorem exec_jpIf : exec (Instr.jpIf cc a) s = .next (jumpIf cc a s) := by cases cc <;> rfl

theorem exec_jrIf (b : Byte) : exec (Instr.jrIf cc b) s = .next (jumpRelativeIf cc b s) := by cases cc <;> rfl

theorem exec_callIf : exec (Instr.callIf cc a) s = .next (callIf cc a s) := by cases cc <;> rfl

theorem exec_retIf : exec (Instr.retIf cc) s = .next (retIf cc s) := by cases cc <;> rfl

theorem exec_rst (y : Field3) : exec (Instr.rst y) s = .next (restart y s) := by cases y <;> rfl

end Answers

/-! ### The jumps (R250 to R254) -/

/-- The base is PC, which is past the instruction. -/
theorem jumpRelative_eq (b : Byte) (s : State) :
    jumpRelative b s = jumpTo s (BitVec.ofInt 16 (s.regs.pc.toNat + b.toInt)) :=
  congrArg s.setPc (add_sext16 s.regs.pc b)

theorem jumpIf_eq (cc : Cond) (a : Word) (s : State) :
    jumpIf cc a s = if holds cc s then jumpTo { s with branchTaken := true } a else s := by
  rw [holds_eq_cond]
  rfl

theorem jumpRelativeIf_eq (cc : Cond) (b : Byte) (s : State) :
    jumpRelativeIf cc b s =
      if holds cc s then jumpTo { s with branchTaken := true } (BitVec.ofInt 16 (s.regs.pc.toNat + b.toInt))
      else s := by
  rw [holds_eq_cond, jumpRelativeIf, jumpRelative_eq]
  rfl

/-- Settles O27: each form sets PC to its target. -/
theorem unconditionalJumps : Obligations.UnconditionalJumps := by
  intro a b s
  refine ⟨rfl, rfl, congrArg Host.Outcome.next (jumpRelative_eq b s), rfl, rfl, rfl,
    fun taken => ⟨?_, ?_, ?_⟩⟩ <;>
    exact cost_of_encode rfl (by decide) taken

/-- Settles O28: a guarded jump is the jump after branch_taken is set. -/
theorem conditionalJumps : Obligations.ConditionalJumps := by
  intro cc a b s
  have encJp := encode_jpIf cc a
  have encJr := encode_jrIf cc b
  refine ⟨(exec_jpIf cc a s).trans (congrArg Host.Outcome.next (jumpIf_eq cc a s)),
    (exec_jrIf cc s b).trans (congrArg Host.Outcome.next (jumpRelativeIf_eq cc b s)), encJp, encJr,
    fun taken => ⟨?_, ?_⟩⟩
  · exact cost_of_encode_conditional encJp (by cases cc <;> decide) taken
  · exact cost_of_encode_conditional encJr (by cases cc <;> decide) taken

/-! ### The calls, the restarts and the conditional return (R255, R256, R258, R260) -/

theorem call_eq (a : Word) (s : State) : call a s = jumpTo (pushed s s.regs.pc) a :=
  congrArg (State.setPc · a) (s.push16_eq_pushed s.regs.pc)

/-- A restart is a call of `y * 8`. -/
theorem restart_eq (y : Field3) (s : State) :
    restart y s = jumpTo (pushed s s.regs.pc) (BitVec.ofNat 16 (8 * y.toNat)) := by
  rw [BitVec.ofNat_mul]
  exact call_eq _ s

theorem callIf_eq (cc : Cond) (a : Word) (s : State) :
    callIf cc a s = if holds cc s then jumpTo (pushed { s with branchTaken := true } s.regs.pc) a else s := by
  rw [holds_eq_cond, callIf, call_eq]
  rfl

theorem retIf_eq (cc : Cond) (s : State) :
    retIf cc s =
      if holds cc s then { s with branchTaken := true, regs := { s.regs with sp := s.regs.sp + 2, pc := popped s } }
      else s := by
  rw [holds_eq_cond]
  rfl

/-- Settles O29: both push PC, which is past the instruction. -/
theorem callAndRestart : Obligations.CallAndRestart := by
  intro a y s
  have enc := encode_rst y
  refine ⟨congrArg Host.Outcome.next (call_eq a s),
    (exec_rst s y).trans (congrArg Host.Outcome.next (restart_eq y s)), rfl, enc, fun taken => ⟨?_, ?_⟩⟩
  · exact cost_of_encode rfl (by decide) taken
  · exact cost_of_encode enc (by cases y <;> decide) taken

/-- Settles O31: a guarded call or return is the call or return after branch_taken is set. -/
theorem conditionalCallAndReturn : Obligations.ConditionalCallAndReturn := by
  intro cc a s
  have encCall := encode_callIf cc a
  have encRet := encode_retIf cc
  refine ⟨(exec_callIf cc a s).trans (congrArg Host.Outcome.next (callIf_eq cc a s)),
    (exec_retIf cc s).trans (congrArg Host.Outcome.next (retIf_eq cc s)), encCall, encRet, fun taken => ⟨?_, ?_⟩⟩
  · exact cost_of_encode_conditional encCall (by cases cc <;> decide) taken
  · exact cost_of_encode_conditional encRet (by cases cc <;> decide) taken

/-! ### The interrupt serviced once IME is set (R259, 60_exceptions.md R310, R312) -/

theorem IntKind.exists_number_eq : ∀ {n : Nat}, n < 5 → ∃ k : IntKind, k.number = n
  | 0, _ => ⟨.vblank, rfl⟩
  | 1, _ => ⟨.lcdStat, rfl⟩
  | 2, _ => ⟨.timer, rfl⟩
  | 3, _ => ⟨.serial, rfl⟩
  | 4, _ => ⟨.joypad, rfl⟩

theorem IntKind.number_lt (k : IntKind) : k.number < 5 := by cases k <;> decide

theorem pendingKind_iff (s : State) {n : Nat} (h : n < 5) : pendingKind s n ↔ s.pending.getLsbD n = true := by
  rw [s.pending_bit h, Bool.and_eq_true]
  rfl

/-- The kind the processor selects is the lowest one pending and enabled. -/
theorem lowestPending_iff (s : State) (k : IntKind) : lowestPending s k.number ↔ selectKind s.pending = some k := by
  have below : (∀ n, n < k.number → ¬pendingKind s n) ↔ ∀ n, n < k.number → s.pending.getLsbD n = false :=
    forall₂_congr fun n hn => by rw [pendingKind_iff s (hn.trans k.number_lt), Bool.not_eq_true]
  rw [selectKind_eq_some, lowestPending, pendingKind_iff s k.number_lt, below, and_iff_right k.number_lt]

theorem State.service_eq_serviced (s : State) (k : IntKind) : s.service k = serviced s k.number := by
  rw [State.service, State.push16_eq_pushed]
  cases k <;> rfl

/-- With IME set, the selected kind is serviced, whether the processor was halted or not (R300). -/
theorem cpuTick_services {s : State} {k : IntKind} (hi : s.ime = true) (hk : selectKind s.pending = some k) :
    cpuTick s = .next ({ s with halted := false }.service k, some intServiceCycles) := by
  rcases cpuTick_cases s with ⟨-, idle, -⟩ | ⟨j, -, selected, tick⟩ | ⟨-, unselected, -⟩
  · rw [idle] at hk
    cases hk
  · cases hk.symm.trans selected
    exact tick
  · cases (unselected hi).symm.trans hk

theorem servicesNext_of_ime {s : State} (hi : s.ime = true) : servicesNext s := by
  intro n lowest
  obtain ⟨k, rfl⟩ := IntKind.exists_number_eq lowest.1
  rw [cpuTick_services hi ((lowestPending_iff s k).1 lowest), State.service_eq_serviced]
  rfl

/-- Settles O30: both pop PC, and RETI leaves IME set, so the processor services what is pending. -/
theorem returnAndReturnFromInterrupt : Obligations.ReturnAndReturnFromInterrupt := by
  intro s
  refine ⟨rfl, rfl, servicesNext_of_ime rfl, rfl, rfl, fun taken => ⟨?_, ?_⟩⟩ <;>
    exact cost_of_encode rfl (by decide) taken

end Sys2Proof.Machine

/-! SUPPORT. The system instructions and the illegal slots (45_system.md R275 to R280): what a system step makes of an
illegal opcode. -/

namespace Sys2Proof.Machine

open Sys2Proof.Claims

/-! ### NOP, HALT, STOP, DI and EI (R275 to R279) -/

/-- Settles O32: each writes the one bit its rule names, and EI leaves IME set, so the processor services what is
pending. -/
theorem systemInstructions : Obligations.SystemInstructions := by
  intro b s
  refine ⟨rfl, rfl, rfl, rfl, rfl, servicesNext_of_ime rfl, rfl, rfl, rfl, rfl, rfl, ?_⟩
  simp only [List.forall_mem_cons]
  refine ⟨?_, ?_, ?_, ?_, ?_, nofun⟩ <;> exact cost_of_encode rfl (by decide)

/-! ### The illegal slots (R280) -/

theorem encode_illegal {i : Instr} {op : Byte} (h : (i, op) ∈ illegalSlots) : encode i = [op] :=
  (by decide : ∀ slot ∈ illegalSlots, encode slot.1 = [slot.2]) _ h

theorem exec_illegal {i : Instr} {op : Byte} (h : (i, op) ∈ illegalSlots) (s : State) :
    exec i s = .next (illegal op s) := by
  fin_cases h <;> rfl

/-- The opcode byte alone decodes, whatever follows it. -/
theorem decodeBytes_illegal {i : Instr} {op : Byte} (h : (i, op) ∈ illegalSlots) (rest : List Byte) :
    decodeBytes (op :: rest) = .ok (i, rest) := by
  have inverse := decodeInvertsEncode i rest
  rwa [encode_illegal h] at inverse

/-- A system step that fetches an illegal opcode ends with the fault mark its execution sets (R370). -/
theorem step_illegal {i : Instr} {op : Byte} {s : State} (h : (i, op) ∈ illegalSlots) (hf : s.fault = none)
    (hop : s.busRead s.regs.pc = op) (hh : ¬(s.halted = true ∧ nonePending s)) (hi : s.ime = true → nonePending s) :
    step s = .next (illegal op (running s i)) := by
  subst hop
  obtain ⟨t, executed, stepped⟩ := stepRunsDecodedInstruction s i _ hf hh hi (decodeBytes_illegal h _)
  cases (exec_illegal h _).symm.trans executed
  have fatal : (illegal (s.busRead s.regs.pc) (running s i)).fault ≠ none := Option.some_ne_none _
  rwa [if_neg fatal] at stepped

/-- Settles O33: the answer is `raiseFatal`'s state, and a system step that executes it ends there. -/
theorem illegalOpcodeRaisesFatal : Obligations.IllegalOpcodeRaisesFatal := fun _ _ s h =>
  ⟨encode_illegal h, exec_illegal h s, step_illegal h⟩

end Sys2Proof.Machine

/-! SUPPORT. The exceptions (60_exceptions.md R300 to R317, R370, R374): which instructions raise Fatal, what the
processor step and the system step do, interrupt entry and the return from one, and final states. -/

namespace Sys2Proof.Machine

open Sys2Proof.Claims

/-! ### Fatal (R303) -/

theorem State.writeOperand_fault (s : State) (o : Operand8) (v : Byte) : (s.writeOperand o v).fault = s.fault := by
  cases o with
  | reg n => rfl
  | atHL => exact s.busWrite_fault _ v

theorem State.push16_fault (s : State) (v : Word) : (s.push16 v).fault = s.fault :=
  have ⟨_, _, _, fault, _⟩ := s.push16_keeps v
  fault

/-- A guarded transfer that leaves the fault mark when taken leaves it in any case. -/
theorem guarded_fault {s u : State} (b : Bool) (hu : u.fault = s.fault) : (if b then u else s).fault = s.fault := by
  cases b
  · rfl
  · exact hu

/-- An instruction leaves the fault mark, unless it is an illegal slot, which raises Fatal. -/
theorem Effect.fault {i : Instr} {s t : State} (h : Effect i s t) :
    t.fault = s.fault ∨ ∃ op, (i, op) ∈ illegalSlots ∧ t = Machine.illegal op s := by
  cases h
  case illegal slot => exact .inr ⟨_, slot, rfl⟩
  all_goals refine .inl ?_
  case ldAtHLReg | ldAtHLImm | ldAtBCA | ldAtDEA | ldAtA16A | ldhAtA8A | ldAtCA | ldAtHLIncA | ldAtHLDecA =>
    exact s.busWrite_fault _ _
  case ldAtAddrSp => exact (State.busWrite_fault _ _ _).trans (s.busWrite_fault _ _)
  case pushPair | call | restart => exact s.push16_fault _
  case incOperand | decOperand | resOperand | setOperand => exact s.writeOperand_fault _ _
  case rotate op _ => cases op <;> exact s.writeOperand_fault _ _
  case alu op _ | aluImm op _ => cases op <;> rfl
  case jumpIf | jumpRelativeIf | retIf => exact guarded_fault _ rfl
  case callIf => exact guarded_fault _ (s.takeBranch.push16_fault _)
  case ldRegReg | ldRegImm | ldRegAtHL | ldAAtBC | ldAAtDE | ldAAtA16 | ldhAAtA8 | ldAAtC | ldAAtHLInc | ldAAtHLDec |
      ldPairImm | ldHLSpE8 | ldSpHL | popPair | daaA | cplA | scfC | ccfC | addHL | incPair | decPair | addSp | rlcA |
      rrcA | rlA | rrA | bitOperand | jump | jumpHL | jumpRelative | ret | reti | nopStep | halt | stop |
      disableInterrupts | enableInterrupts =>
    rfl

/-- The illegal opcodes decode to the illegal slots, whatever follows. -/
theorem decode_illegal {i : Instr} {op : Byte} (h : (i, op) ∈ illegalSlots) (b1 b2 : Byte) : decode op b1 b2 = i := by
  obtain ⟨b0, tail, hb, -, hd, -⟩ := decodeBytes_eq_ok.1 (decodeBytes_illegal h [b1, b2])
  cases hb
  exact hd

/-- No other opcode decodes to one. -/
theorem opcode_of_decode_illegal {b0 b1 b2 op : Byte} (h : (decode b0 b1 b2, op) ∈ illegalSlots) : b0 = op := by
  have enc : consumed b0 b1 b2 = [op] := (encode_decode b0 b1 b2).symm.trans (encode_illegal h)
  unfold consumed at enc
  rcases lengthOf_cases b0 with hl | hl | hl <;> rw [hl] at enc <;> cases enc
  rfl

/-- Settles O4: by the shape of the instruction only an illegal slot changes the fault mark, and the illegal slots are
what the eleven opcodes decode to. -/
theorem faultCausesAreTheElevenSlots : Obligations.FaultCausesAreTheElevenSlots := by
  intro b0 b1 b2 s t hf h
  by_cases hb : b0 ∈ illegalSlots.map Prod.snd
  · rw [if_pos hb]
    obtain ⟨⟨i, op⟩, slot, rfl⟩ := List.mem_map.1 hb
    rw [decode_illegal slot, exec_illegal slot] at h
    cases h
    rfl
  · rw [if_neg hb]
    rcases (effect_of_exec h).fault with kept | ⟨op, slot, -⟩
    · exact kept.trans hf
    · exact absurd (List.mem_map.2 ⟨_, slot, (opcode_of_decode_illegal slot).symm⟩) hb

/-! ### The processor step (R300, R310, R317) -/

/-- A halted processor with nothing pending idles. -/
theorem cpuTick_idles {s : State} (hh : s.halted = true) (hp : nonePending s) : cpuTick s = .next (s, some 4) :=
  if_pos (by simp [hh, (nonePending_iff s).1 hp])

/-- When nothing keeps the processor from executing, it runs what decodes at PC, at its cost. -/
theorem cpuTick_runs {s t : State} {i : Instr} {rest : List Byte} (hh : ¬(s.halted = true ∧ nonePending s))
    (hi : s.ime = true → nonePending s) (hd : decodeBytes (bytesAtPc s) = .ok (i, rest))
    (ht : exec i (running s i) = .next t) :
    cpuTick s = .next (t, if t.fault.isSome then none else some (cost i t.branchTaken)) := by
  obtain ⟨u, hu, tick⟩ := executeOne_eq { s with halted := false }
  have fetched : { s with halted := false }.fetched = i := State.fetched_of_decodeBytes (s := s) hd
  rw [fetched] at hu tick
  cases hu.symm.trans ht
  exact (cpuTick_executes hh hi).trans tick

/-- Settles O43: the three cases of R300, each by its own equation. -/
theorem processorStepIdlesServicesOrExecutes : Obligations.ProcessorStepIdlesServicesOrExecutes := fun _ =>
  ⟨cpuTick_idles, fun k hi lowest => servicesNext_of_ime hi k lowest, fun hh hi _ _ _ hd ht => cpuTick_runs hh hi hd ht⟩

/-! ### The system step (R304, R370) -/

/-- Every processor step answers a next state, without a cost only when Fatal was raised. -/
theorem cpuTick_answers (s : State) : ∃ t n, cpuTick s = .next (t, n) ∧ (n = none → t.fault ≠ none) := by
  rcases cpuTick_cases s with ⟨-, -, tick⟩ | ⟨k, -, -, tick⟩ | ⟨-, -, tick⟩
  · exact ⟨_, _, tick, nofun⟩
  · exact ⟨_, _, tick, nofun⟩
  · obtain ⟨t, -, executed⟩ := executeOne_eq { s with halted := false }
    refine ⟨t, _, tick.trans executed, fun fatal running => ?_⟩
    rw [running] at fatal
    cases fatal

/-- Settles O44: the display step and the hook of `finished` are those of `afterCpu`. -/
theorem systemStepOrder : Obligations.SystemStepOrder := by
  intro s
  refine ⟨fun hf => step_faulted (Option.isSome_iff_ne_none.2 hf), fun hf => ⟨fun t n => step_running hf, ?_, ?_⟩⟩
  · intro t tick
    obtain ⟨u, n, answered, fatal⟩ := cpuTick_answers s
    cases answered.symm.trans tick
    exact ⟨step_fatal hf tick, fatal rfl⟩
  · obtain ⟨t, n, answered, -⟩ := cpuTick_answers s
    exact ⟨t, n, answered⟩

/-! ### Interrupt entry and the return from one (R312, R316) -/

/-- A push reaches IE and IF only where one of its two bytes lands on them. -/
theorem pushed_interrupts (s : State) (v : Word) :
    (pushed s v).ie =
      (if s.regs.sp - 1 = 0xFFFF then highByte v else if s.regs.sp - 2 = 0xFFFF then lowByte v else s.ie) ∧
    (pushed s v).ifr =
      (if s.regs.sp - 1 = 0xFF0F then highByte v else if s.regs.sp - 2 = 0xFF0F then lowByte v else s.ifr) := by
  have swap : ∀ (a : Word) (high low old : Byte),
      (if s.regs.sp - 2 = a then low else if s.regs.sp - 1 = a then high else old) =
        if s.regs.sp - 1 = a then high else if s.regs.sp - 2 = a then low else old := by
    intro a high low old
    split
    · next h => rw [if_neg (by bv_omega)]
    · rfl
  have stores := State.busWrite_interrupts (s.setSp (s.regs.sp - 2)) (s.regs.sp - 1) (highByte v)
  have interrupts := State.busWrite_interrupts ((s.setSp (s.regs.sp - 2)).busWrite (s.regs.sp - 1) (highByte v))
    (s.regs.sp - 2) (lowByte v)
  rw [stores.1, stores.2, swap, swap] at interrupts
  exact interrupts

theorem pushed_regs (s : State) (v : Word) : (pushed s v).regs = { s.regs with sp := s.regs.sp - 2 } := by
  rw [← State.push16_eq_pushed, State.push16_regs]

theorem pushed_ime (s : State) (v : Word) : (pushed s v).ime = s.ime := by
  rw [← State.push16_eq_pushed, (s.push16_keeps v).1]

theorem pushed_halted (s : State) (v : Word) : (pushed s v).halted = s.halted := by
  rw [← State.push16_eq_pushed, (s.push16_keeps v).2.1]

/-- An interrupt entry saves PC only: every other register is kept. -/
theorem serviced_regs (s : State) (k : Nat) :
    (serviced s k).regs = { s.regs with sp := s.regs.sp - 2, pc := 0x0040 + BitVec.ofNat 16 (8 * k) } :=
  congrArg (fun r : Regs => { r with pc := 0x0040 + BitVec.ofNat 16 (8 * k) }) (pushed_regs _ _)

theorem serviced_ime (s : State) (k : Nat) : (serviced s k).ime = false := pushed_ime _ _

theorem serviced_halted (s : State) (k : Nat) : (serviced s k).halted = s.halted := pushed_halted _ _

theorem serviced_ie (s : State) (k : Nat) :
    (serviced s k).ie =
      (if s.regs.sp - 1 = 0xFFFF then highByte s.regs.pc
      else if s.regs.sp - 2 = 0xFFFF then lowByte s.regs.pc else s.ie) := (pushed_interrupts _ _).1

/-- On a stack in storage the two bytes of PC are read back. -/
theorem busRead_serviced {s : State} (k : Nat) (hs : s.mem.wf = true) (high : storage (s.regs.sp - 1))
    (low : storage (s.regs.sp - 2)) :
    (serviced s k).busRead (s.regs.sp - 1) = highByte s.regs.pc ∧
    (serviced s k).busRead (s.regs.sp - 2) = lowByte s.regs.pc :=
  busRead_pushed (s := { s with ime := false, ifr := s.ifr &&& ~~~(1#8 <<< k) }) hs high low s.regs.pc

/-- Settles O46: the state is `serviced`'s, whose push of PC writes two bytes and nothing else. -/
theorem interruptEntrySavesPcOnly : Obligations.InterruptEntrySavesPcOnly := by
  intro s k hi lowest
  have regs := serviced_regs { s with halted := false } k
  refine ⟨_, servicesNext_of_ime hi k lowest, rfl, serviced_ime _ k, serviced_halted _ k, congrArg Regs.pc regs, ?_,
    serviced_ie _ k, (pushed_interrupts _ _).2, fun hs high low => busRead_serviced k hs high low⟩
  rw [regs]

/-- Storage holds no byte of IE. -/
theorem ne_intEnable_of_storage {a : Word} (h : storage a) : a ≠ 0xFFFF := by
  rintro rfl
  unfold storage plainStorage echoRam at h
  simp at h

/-- Settles O47: RETI pops the PC that the entry pushed, and sets IME again. -/
theorem returnUndoesInterruptEntry : Obligations.ReturnUndoesInterruptEntry := by
  intro s u k hs high low _ h
  obtain ⟨-, reti, -⟩ := returnAndReturnFromInterrupt (serviced s k)
  cases reti.symm.trans h
  have regs := serviced_regs s k
  obtain ⟨readHigh, readLow⟩ := busRead_serviced k hs high low
  have above : s.regs.sp - 2 + 1 = s.regs.sp - 1 := by bv_omega
  have target : popped (serviced s k) = s.regs.pc := by
    rw [popped, regs, above, readHigh, readLow]
    exact pack_hi_lo _
  refine ⟨?_, rfl, ?_, serviced_halted s k⟩
  · rw [target, regs, BitVec.sub_add_cancel]
  · rw [serviced_ie, if_neg (ne_intEnable_of_storage high), if_neg (ne_intEnable_of_storage low)]

/-! ### Final states (R374) -/

/-- With no kind enabled none is pending. -/
theorem State.pending_of_noneEnabled {s : State} (h : s.ie &&& 0x1F = 0) : s.pending = 0 := by
  rw [State.pending, BitVec.and_assoc, BitVec.and_comm s.ifr, ← BitVec.and_assoc, h]
  exact BitVec.zero_and

/-- Settles O48: the processor idles, and the display step and the hook touch none of this. -/
theorem finalStateIsKept : Obligations.FinalStateIsKept := by
  intro s t hf hh he h
  have idle := (nonePending_iff s).2 (State.pending_of_noneEnabled he)
  cases (step_running hf (cpuTick_idles hh idle)).symm.trans h
  have display := DisplayOnly.dispTick s 4
  have rest := display.rest
  exact ⟨(congrArg State.fault rest).trans hf, (congrArg State.halted rest).trans hh, (congrArg State.regs rest :),
    (congrArg State.mem rest :), (congrArg State.ime rest :), (congrArg State.ie rest :),
    (congrArg State.branchTaken rest :),
    extractLsb'_high_of_getLsbD display.ifrHigh⟩

end Sys2Proof.Machine

/-! SUPPORT. The display controller's timing (60_exceptions.md R343 to R352): one equation for the end of each phase, the
display step as a sum of steps, and a frame line by line. -/

namespace Sys2Proof.Machine

open Sys2Proof.Claims

/-! ### The loop (R343, R344) -/

theorem Mode.budget_eq (m : Mode) : m.budget = Claims.budget m := by cases m <;> rfl

theorem State.dispTick_zero {s : State} (h : s.lcd.acc < s.lcd.mode.budget) : s.dispTick 0 = s := State.dispTick_within h

/-- Settles O52: the two cases of one pass of the loop. -/
theorem displayStepLoop : Obligations.DisplayStepLoop := by
  intro s n
  rw [← Mode.budget_eq]
  exact ⟨State.dispTick_within, State.dispTick_past, State.dispTick_zero⟩

/-! ### The end of each phase (R345 to R350) -/

/-- STAT's masks keep its upper six bits above the mode's encoding. -/
theorem stat_inMode (v : Byte) (m : Mode) : (v &&& 0xFC) ||| m.code = v.extractLsb' 2 6 ++ modeBits m := by
  refine BitVec.eq_of_getLsbD_eq fun i hi => ?_
  rw [BitVec.getLsbD_append]
  cases m <;> interval_cases i <;> simp [Mode.code, modeBits]

/-- STAT's masks put the coincidence bit between its upper five bits and the mode's two. -/
theorem stat_coincidence (v : Byte) (b : Bool) :
    (v &&& 0xFB) ||| (if b then 0x04 else 0x00) = v.extractLsb' 3 5 ++ BitVec.ofBool b ++ v.extractLsb' 0 2 := by
  refine BitVec.eq_of_getLsbD_eq fun i hi => ?_
  rw [BitVec.getLsbD_append, BitVec.getLsbD_append]
  cases b <;> interval_cases i <;> simp

theorem State.setMode_eq (s : State) (m : Mode) : s.setMode m = inMode s m := by
  rw [inMode, ← stat_inMode]
  rfl

section Phases

variable {s : State}

theorem State.endOfPhase_oam (h : s.lcd.mode = .oam) : s.endOfPhase = s.setMode .vram := by
  rw [State.endOfPhase, h]
  rfl

theorem State.endOfPhase_vram (h : s.lcd.mode = .vram) : s.endOfPhase = s.endOfVram := by rw [State.endOfPhase, h]

theorem State.endOfPhase_hblank (h : s.lcd.mode = .hblank) : s.endOfPhase = s.endOfHblank := by rw [State.endOfPhase, h]

theorem State.endOfPhase_vblank (h : s.lcd.mode = .vblank) : s.endOfPhase = s.endOfVblank := by rw [State.endOfPhase, h]

end Phases

/-- Two requests of one kind are one. -/
theorem request_twice (v : Byte) (b c : Bool) :
    (if c then (if b then v ||| 0x02 else v) ||| 0x02 else if b then v ||| 0x02 else v) =
      if b = true ∨ c = true then v ||| 0x02 else v := by
  cases b <;> cases c <;> simp [BitVec.or_assoc]

theorem State.request_lcdStat_ite (s : State) (b : Bool) :
    (if b then s.request .lcdStat else s) = { s with ifr := if b then s.ifr ||| 0x02 else s.ifr } := by
  cases b <;> rfl

/-- The end of VRAM: the two sources of LCD_STAT make one request. -/
theorem State.endOfVram_eq (s : State) :
    s.endOfVram =
      { s with
        ifr :=
          if bit s.lcd.stat 3 = true ∨ (bit s.lcd.stat 6 && s.lcd.ly == s.lcd.lyc) = true then s.ifr ||| 0x02
          else s.ifr
        lcd := (s.setCoincidence (s.lcd.ly == s.lcd.lyc)).lcd }.setMode .hblank := by
  have six : bit (s.setCoincidence (s.lcd.ly == s.lcd.lyc)).lcd.stat 6 = bit s.lcd.stat 6 :=
    (DisplayOnly.setCoincidence s _).statHigh 6 (by decide)
  rw [← request_twice]
  unfold State.endOfVram
  simp only [State.request_lcdStat_ite]
  rw [← six]
  rfl

/-- The end of HBLANK: the line is drawn, and the next one is visible or the first of VBLANK. -/
theorem State.endOfHblank_eq (s : State) :
    s.endOfHblank =
      if (s.lcd.ly + 1).toNat < 144 then ((s.renderBgLine s.lcd.ly.toNat).setLy (s.lcd.ly + 1)).setMode .oam
      else (((s.renderBgLine s.lcd.ly.toNat).setLy (s.lcd.ly + 1)).request .vblank).setMode .vblank := rfl

/-- The end of a VBLANK line: the next line, or after the last one the end of the frame. -/
theorem State.endOfVblank_eq (s : State) :
    s.endOfVblank =
      if s.lcd.ly + 1 = 154 then (s.setLy (s.lcd.ly + 1)).endOfFrame else (s.setLy (s.lcd.ly + 1)).setMode .vblank := rfl

/-! ### What the sprites do not read -/

/-- Plain storage reads as before in a state with the same MEM. -/
theorem State.busRead_setLy (s : State) (v : Byte) {n : Nat} (hn : n < 0x10000) (h : plainStorage n) :
    (s.setLy v).busRead (BitVec.ofNat 16 n) = s.busRead (BitVec.ofNat 16 n) := by
  have number : (BitVec.ofNat 16 n).toNat = n := Nat.mod_eq_of_lt hn
  have cell := plainCell_of_plainStorage (a := BitVec.ofNat 16 n) (by rwa [number])
  rw [State.busRead_plain cell, State.busRead_plain cell, State.setLy_mem]

/-- OAM and tile data are plain storage. -/
theorem plainStorage_of_oam {n : Nat} (low : 0xFE00 ≤ n) (high : n ≤ 0xFE9F) : plainStorage n := by
  unfold plainStorage
  omega

theorem plainStorage_of_videoRam {n : Nat} (low : 0x8000 ≤ n) (high : n ≤ 0x9FFF) : plainStorage n := by
  unfold plainStorage
  omega

theorem State.oamEntry_setLy (s : State) (v : Byte) {i : Nat} (hi : i < 40) : (s.setLy v).oamEntry i = s.oamEntry i := by
  have same : ∀ k, k < 4 → (s.setLy v).busRead (BitVec.ofNat 16 (0xFE00 + 4 * i + k)) =
      s.busRead (BitVec.ofNat 16 (0xFE00 + 4 * i + k)) := fun k hk =>
    s.busRead_setLy v (by omega) (plainStorage_of_oam (by omega) (by omega))
  simp only [State.oamEntry, same 0 (by decide), same 1 (by decide), same 2 (by decide), same 3 (by decide)]

theorem State.oamEntry_tile_lt (s : State) (i : Nat) : (s.oamEntry i).tile < 256 := BitVec.isLt _

theorem State.tilePixel_setLy (s : State) (v : Byte) {tile row : Nat} (low : 0x8000 ≤ tile)
    (high : tile + 2 * row + 1 ≤ 0x9FFF) (col : Nat) :
    (s.setLy v).tilePixel tile row col = s.tilePixel tile row col := by
  unfold State.tilePixel
  rw [s.busRead_setLy v (by omega) (plainStorage_of_videoRam (by omega) (by omega)),
    s.busRead_setLy v (by omega) (plainStorage_of_videoRam (by omega) (by omega))]

theorem Display.spriteHeight_le (d : Display) : d.spriteHeight ≤ 16 := by
  unfold Display.spriteHeight
  split <;> decide

theorem State.spriteColour_setLy (s : State) (v : Byte) {e : OamEntry} (he : e.tile < 256) {row : Nat}
    (hr : row < s.lcd.spriteHeight) (col : Nat) : (s.setLy v).spriteColour e row col = s.spriteColour e row col := by
  have height := s.lcd.spriteHeight_le
  have ty : (if e.flipY then s.lcd.spriteHeight - 1 - row else row) < 16 := by split <;> omega
  exact s.tilePixel_setLy v (tile := 0x8000 + e.tile * 16) 
    (row := if e.flipY then s.lcd.spriteHeight - 1 - row else row) (by omega) (by omega) _

theorem State.drawSpritePixel_setLy (s : State) (v : Byte) {e : OamEntry} (he : e.tile < 256) {row : Nat}
    (hr : row < s.lcd.spriteHeight) (col : Nat) (fb : Frame) :
    (s.setLy v).drawSpritePixel e row col fb = s.drawSpritePixel e row col fb := by
  simp only [State.drawSpritePixel, s.spriteColour_setLy v he hr]
  rfl

theorem State.drawSprite_setLy (s : State) (v : Byte) (fb : Frame) {i : Nat} (hi : i < 40) :
    (s.setLy v).drawSprite fb i = s.drawSprite fb i := by
  unfold State.drawSprite
  rw [s.oamEntry_setLy v hi]
  dsimp only
  split
  · rfl
  · refine List.foldl_ext _ _ _ fun fb row hr => ?_
    refine List.foldl_ext _ _ _ fun fb col _ => ?_
    exact s.drawSpritePixel_setLy v (s.oamEntry_tile_lt i) (List.mem_range.1 hr) col fb

/-- The sprites are drawn from OAM and tile data, never from LY. -/
theorem State.renderSprites_setLy (s : State) (v : Byte) : (s.setLy v).renderSprites = s.renderSprites.setLy v := by
  have drawn : (List.range 40).foldl (s.setLy v).drawSprite s.lcd.fb = (List.range 40).foldl s.drawSprite s.lcd.fb :=
    List.foldl_ext _ _ _ fun fb i hi => s.drawSprite_setLy v fb (List.mem_range.1 hi)
  unfold State.renderSprites
  rw [State.setLy_lcd_fb, drawn]
  rfl

/-! ### What the display step does not read -/

theorem State.drawSprite_setAcc (s : State) (n : Nat) : (s.setAcc n).drawSprite = s.drawSprite := rfl

theorem State.renderSprites_setAcc (s : State) (n : Nat) : (s.setAcc n).renderSprites = s.renderSprites.setAcc n := by
  unfold State.renderSprites
  rw [State.drawSprite_setAcc]
  rfl

theorem State.renderBgLine_setAcc (s : State) (n line : Nat) :
    (s.setAcc n).renderBgLine line = (s.renderBgLine line).setAcc n := rfl

/-- Settles O53, phase by phase. -/
theorem phaseTransitions : Obligations.PhaseTransitions := by
  intro s
  refine ⟨fun h => ?_, fun h => ?_, fun h => ?_, fun h => ?_⟩
  · rw [State.endOfPhase_oam h, State.setMode_eq]
  · rw [State.endOfPhase_vram h, State.endOfVram_eq, State.setMode_eq]
    simp only [← stat_coincidence, bit, Bool.and_eq_true, beq_iff_eq]
    rfl
  · rw [State.endOfPhase_hblank h, State.endOfHblank_eq]
    simp only [← State.setMode_eq]
    rfl
  · rw [State.endOfPhase_vblank h, State.endOfVblank_eq, State.endOfFrame, State.renderSprites_setLy]
    simp only [← State.setMode_eq]
    rfl

/-! ### The display step is additive (R343, R351) -/

/-- The accumulator plays no part in the end of a phase. -/
theorem State.endOfPhase_setAcc (s : State) (n : Nat) : (s.setAcc n).endOfPhase = s.endOfPhase.setAcc n := by
  unfold State.endOfPhase
  rw [State.setAcc_lcd_mode]
  split
  · rfl
  · rw [State.endOfVram_eq, State.endOfVram_eq]
    rfl
  · rw [State.endOfHblank_eq, State.endOfHblank_eq, State.setAcc_lcd_ly, State.renderBgLine_setAcc]
    split <;> rfl
  · rw [State.endOfVblank_eq, State.endOfVblank_eq, State.setAcc_lcd_ly]
    split
    · exact congrArg (fun t => (t.paint.setLy 0).setMode .oam) (State.renderSprites_setAcc (s.setLy _) n)
    · rfl

/-- One more step after the phase's end, with the cycles left over. -/
theorem State.passPhase_setAcc_add (s : State) {n : Nat} (h : s.lcd.mode.budget ≤ s.lcd.acc) :
    (s.setAcc (s.lcd.acc + n)).passPhase.dispTick 0 = s.passPhase.dispTick n := by
  have acc : s.passPhase.lcd.acc + n = s.lcd.acc + n - s.lcd.mode.budget := by
    rw [State.passPhase_acc]
    omega
  have pass : (s.setAcc (s.lcd.acc + n)).passPhase = s.passPhase.setAcc (s.passPhase.lcd.acc + n) := by
    rw [acc]
    exact State.endOfPhase_setAcc (s.setAcc (s.lcd.acc - s.lcd.mode.budget)) _
  rw [pass]
  rfl

/-- By induction on the cycles the first step has to spend: if they end a phase, both sides end it and go on with
fewer. -/
theorem State.dispTick_add (s : State) (m n : Nat) : s.dispTick (m + n) = (s.dispTick m).dispTick n := by
  induction hk : s.lcd.acc + m using Nat.strong_induction_on generalizing s m with
  | _ k ih =>
    subst hk
    by_cases h : s.lcd.mode.budget ≤ s.lcd.acc + m
    · have pos := s.lcd.mode.budget_pos
      have acc : (s.setAcc (s.lcd.acc + m)).passPhase.lcd.acc = s.lcd.acc + m - s.lcd.mode.budget :=
        State.passPhase_acc _
      have rest := ih _ (by rw [acc]; omega) (s.setAcc (s.lcd.acc + m)).passPhase 0 rfl
      rw [Nat.zero_add] at rest
      rw [State.dispTick_past (n := m) h, State.dispTick_past (n := m + n) (by omega), ← rest, ← Nat.add_assoc]
      exact State.passPhase_setAcc_add (s.setAcc (s.lcd.acc + m)) h
    · rw [State.dispTick_within (n := m) (by omega)]
      unfold State.dispTick
      rw [State.setAcc_lcd_acc, ← Nat.add_assoc]
      rfl

/-- Settles O54. -/
theorem displayStepsCompose : Obligations.DisplayStepsCompose := State.dispTick_add

/-! ### A frame, line by line (R344, R348, R350, R352) -/

/-- The display is on line `ly`, the sink holds `sink`, and VBLANK is requested or not. -/
structure OnLine (ly : Nat) (sink : VideoSink) (requested : Bool) (s : State) : Prop where
  line : s.lcd.ly.toNat = ly
  sink : s.sink = sink
  requested : s.ifr.getLsbD 0 = requested

/-- The same, at the start of a phase. -/
structure AtPhase (m : Mode) (ly : Nat) (sink : VideoSink) (requested : Bool) (s : State) : Prop
    extends OnLine ly sink requested s where
  mode : s.lcd.mode = m
  acc : s.lcd.acc = 0

section Frame

variable {m : Mode} {y : Nat} {k : VideoSink} {r : Bool} {s : State}

/-- Within the phase only the accumulator moves. -/
theorem AtPhase.within (h : AtPhase m y k r s) {n : Nat} (hn : n < m.budget) : OnLine y k r (s.dispTick n) := by
  rw [State.dispTick_within (by rw [h.acc, h.mode]; omega)]
  exact ⟨h.line, h.sink, h.requested⟩

/-- After its budget the phase ends, with nothing left over. -/
theorem AtPhase.dispTick_budget (h : AtPhase m y k r s) : s.dispTick m.budget = s.endOfPhase := by
  have full : s.lcd.acc + m.budget - s.lcd.mode.budget = s.lcd.acc := by rw [h.mode]; omega
  have pass : (s.setAcc (s.lcd.acc + m.budget)).passPhase = s.endOfPhase := by
    show (s.setAcc (s.lcd.acc + m.budget - s.lcd.mode.budget)).endOfPhase = _
    rw [full]
    rfl
  rw [State.dispTick_past (by rw [h.mode]; omega), pass]
  refine State.dispTick_zero ?_
  have pos := s.endOfPhase.lcd.mode.budget_pos
  rw [State.endOfPhase_acc, h.acc]
  omega

theorem AtPhase.after_oam (h : AtPhase .oam y k r s) : AtPhase .vram y k r (s.dispTick 80) := by
  rw [show 80 = Mode.oam.budget from rfl, h.dispTick_budget, State.endOfPhase_oam h.mode]
  exact ⟨⟨h.line, h.sink, h.requested⟩, rfl, h.acc⟩

/-- The end of VRAM requests LCD_STAT at most. -/
theorem AtPhase.after_vram (h : AtPhase .vram y k r s) : AtPhase .hblank y k r (s.dispTick 172) := by
  rw [show 172 = Mode.vram.budget from rfl, h.dispTick_budget, State.endOfPhase_vram h.mode, State.endOfVram_eq]
  refine ⟨⟨h.line, h.sink, ?_⟩, rfl, h.acc⟩
  rw [← h.requested, State.setMode_ifr]
  split
  · simp
  · rfl

theorem AtPhase.ly_succ (h : AtPhase m y k r s) (hy : y < 255) : (s.lcd.ly + 1).toNat = y + 1 := by
  rw [ly_succ_toNat (by rw [h.line]; exact hy), h.line]

theorem AtPhase.after_hblank_visible (h : AtPhase .hblank y k r s) (hy : y < 143) :
    AtPhase .oam (y + 1) k r (s.dispTick 204) := by
  have next := h.ly_succ (by omega)
  rw [show 204 = Mode.hblank.budget from rfl, h.dispTick_budget, State.endOfPhase_hblank h.mode, State.endOfHblank_eq,
    if_pos (by omega)]
  exact ⟨⟨next, h.sink, h.requested⟩, rfl, h.acc⟩

/-- After the last visible line VBLANK is requested. -/
theorem AtPhase.after_hblank_last (h : AtPhase .hblank 143 k r s) : AtPhase .vblank 144 k true (s.dispTick 204) := by
  have next := h.ly_succ (by omega)
  rw [show 204 = Mode.hblank.budget from rfl, h.dispTick_budget, State.endOfPhase_hblank h.mode, State.endOfHblank_eq,
    if_neg (by omega)]
  refine ⟨⟨next, h.sink, ?_⟩, rfl, h.acc⟩
  simp [IntKind.number, bitMask]

theorem AtPhase.after_vblank (h : AtPhase .vblank y k r s) (hy : y < 153) :
    AtPhase .vblank (y + 1) k r (s.dispTick 456) := by
  have next := h.ly_succ (by omega)
  rw [show 456 = Mode.vblank.budget from rfl, h.dispTick_budget, State.endOfPhase_vblank h.mode, State.endOfVblank_eq,
    if_neg (fun e => by rw [e] at next; have : 154 = y + 1 := next; omega)]
  exact ⟨⟨next, h.sink, h.requested⟩, rfl, h.acc⟩

theorem State.endOfFrame_ifr (s : State) : s.endOfFrame.ifr = s.ifr := by simp [State.endOfFrame]

/-- The frame painted is the one left in FB. -/
theorem State.endOfFrame_sink (s : State) :
    s.endOfFrame.sink = { paints := s.sink.paints + 1, lastFrame := some s.endOfFrame.lcd.fb } := by
  simp [State.endOfFrame]

/-- After the last line of VBLANK the frame is painted and the next one starts. -/
theorem AtPhase.after_vblank_last (h : AtPhase .vblank 153 k r s) :
    AtPhase .oam 0 { paints := k.paints + 1, lastFrame := some (s.dispTick 456).lcd.fb } r (s.dispTick 456) := by
  have next : s.lcd.ly + 1 = 154 := BitVec.eq_of_toNat_eq (h.ly_succ (by omega))
  rw [show 456 = Mode.vblank.budget from rfl, h.dispTick_budget, State.endOfPhase_vblank h.mode, State.endOfVblank_eq,
    if_pos next]
  refine ⟨⟨rfl, ?_, ?_⟩, rfl, h.acc⟩
  · rw [State.endOfFrame_sink, State.setLy_sink, h.sink]
  · rw [State.endOfFrame_ifr, State.setLy_ifr, h.requested]

/-- 252 cycles into a visible line HBLANK starts. -/
theorem AtPhase.toHblank (h : AtPhase .oam y k r s) : AtPhase .hblank y k r (s.dispTick 252) := by
  rw [show 252 = 80 + 172 from rfl, State.dispTick_add]
  exact h.after_oam.after_vram

/-- LY stays, with no paint and no request, for the 456 cycles of a visible line. -/
theorem AtPhase.within_line (h : AtPhase .oam y k r s) {n : Nat} (hn : n < 456) : OnLine y k r (s.dispTick n) := by
  by_cases oam : n < 80
  · exact h.within oam
  by_cases vram : n < 252
  · rw [show n = 80 + (n - 80) by omega, State.dispTick_add]
    exact h.after_oam.within (show n - 80 < 172 by omega)
  · rw [show n = 252 + (n - 252) by omega, State.dispTick_add]
    exact h.toHblank.within (show n - 252 < 204 by omega)

theorem AtPhase.after_line (h : AtPhase .oam y k r s) (hy : y < 143) : AtPhase .oam (y + 1) k r (s.dispTick 456) := by
  rw [show 456 = 252 + 204 from rfl, State.dispTick_add]
  exact h.toHblank.after_hblank_visible hy

/-- The visible lines, by induction on their number. -/
theorem AtPhase.visible (h : AtPhase .oam 0 k r s) (hy : y ≤ 143) : AtPhase .oam y k r (s.dispTick (456 * y)) := by
  induction y with
  | zero => rwa [Nat.mul_zero, State.dispTick_zero (by rw [h.acc, h.mode]; decide)]
  | succ y ih =>
    rw [Nat.mul_succ, State.dispTick_add]
    exact (ih (by omega)).after_line (by omega)

theorem AtPhase.toVblank (h : AtPhase .oam 0 k r s) : AtPhase .vblank 144 k true (s.dispTick 65664) := by
  rw [show 65664 = 456 * 143 + (252 + 204) from rfl, State.dispTick_add, State.dispTick_add]
  exact (h.visible (Nat.le_refl 143)).toHblank.after_hblank_last

/-- The lines of VBLANK, by induction on their number. -/
theorem AtPhase.vblankLines (h : AtPhase .vblank 144 k r s) {j : Nat} (hj : j ≤ 9) :
    AtPhase .vblank (144 + j) k r (s.dispTick (456 * j)) := by
  induction j with
  | zero => rwa [Nat.mul_zero, State.dispTick_zero (by rw [h.acc, h.mode]; decide)]
  | succ j ih =>
    rw [Nat.mul_succ, State.dispTick_add]
    exact (ih (by omega)).after_vblank (by omega)

theorem AtPhase.toNextFrame (h : AtPhase .oam 0 k r s) :
    AtPhase .oam 0 { paints := k.paints + 1, lastFrame := some (s.dispTick 70224).lcd.fb } true (s.dispTick 70224) := by
  rw [show 70224 = 65664 + 456 * 9 + 456 from rfl, State.dispTick_add, State.dispTick_add]
  exact (h.toVblank.vblankLines (Nat.le_refl 9)).after_vblank_last

end Frame

/-- Settles O55: the frame starts at line 0's OAM phase, and each cycle count below 65664 lies in one visible line. -/
theorem frameTakes70224Cycles : Obligations.FrameTakes70224Cycles := by
  intro s hm hl ha
  have start : AtPhase .oam 0 s.sink (s.ifr.getLsbD 0) s := ⟨⟨by rw [hl]; rfl, rfl, rfl⟩, hm, ha⟩
  have vblank := start.toVblank
  have next := start.toNextFrame
  refine ⟨fun n hn => ?_, ?_, ?_⟩
  · have line : OnLine (n / 456) s.sink (s.ifr.getLsbD 0) (s.dispTick n) := by
      have := (start.visible (y := n / 456) (by omega)).within_line (Nat.mod_lt n (by decide : 456 > 0))
      rwa [← State.dispTick_add, Nat.div_add_mod] at this
    exact ⟨line.line, line.sink, line.requested⟩
  · exact ⟨vblank.mode, BitVec.eq_of_toNat_eq vblank.line, vblank.acc, vblank.requested, vblank.sink⟩
  · exact ⟨next.mode, BitVec.eq_of_toNat_eq next.line, next.acc, next.sink⟩

end Sys2Proof.Machine

/-! SUPPORT. The compositing pipeline (60_exceptions.md R354 to R363), pixel by pixel. -/

namespace Sys2Proof.Machine

open Sys2Proof.Claims

/-! ### Frames -/

/-- A pixel on the screen after one entry of the frame was replaced. -/
theorem Frame.get_set (f : Frame) {y x : Nat} (hy : y < 144) (hx : x < 160) (y' x' : Nat) (v : Shade) :
    (f.set y' x' v).get y x = if y' = y ∧ x' = x then v else f.get y x := by
  have here : y < 144 ∧ x < 160 := ⟨hy, hx⟩
  unfold Frame.set
  split
  · next there =>
    simp only [Frame.get, dif_pos here, Vector.getElem_set]
    by_cases ey : y' = y
    · subst ey
      by_cases ex : x' = x <;> simp [ex]
    · simp [ey]
  · next there => rw [if_neg (by rintro ⟨rfl, rfl⟩; exact there here)]

/-- A pixel on the screen after one line of the frame was replaced. -/
theorem Frame.get_setLine (f : Frame) {l y x : Nat} (hl : l < 144) (hy : y < 144) (hx : x < 160) (line : Nat → Shade) :
    (f.setLine l line).get y x = if y = l then line x else f.get y x := by
  have here : y < 144 ∧ x < 160 := ⟨hy, hx⟩
  simp only [Frame.setLine, Frame.get, dif_pos hl, dif_pos here, Vector.getElem_set, eq_comm (a := y)]
  split <;> simp

/-! ### Tiles and palettes (R354, R358) -/

theorem planes_eq (b0 b1 : Byte) (n : Nat) :
    planes b0 b1 n = BitVec.ofBool (b1.getLsbD n) ++ BitVec.ofBool (b0.getLsbD n) := by
  unfold planes bit
  generalize b0.getLsbD n = low, b1.getLsbD n = high
  revert low high
  decide

theorem State.tilePixel_eq (s : State) (tile row col : Nat) :
    s.tilePixel tile row col = pixel s (tile + 2 * row) col := planes_eq _ _ _

theorem shade_eq (pal : Byte) (p : Shade) : shade pal p = paletteShade pal p := by
  refine BitVec.eq_of_getLsbD_eq fun i hi => ?_
  simp [shade, paletteShade, hi]

/-! ### The background (R355) -/

theorem State.bgColour_eq (s : State) (line col : Nat) : s.bgColour line col = backgroundIndex s line col := by
  unfold State.bgColour
  rw [State.tilePixel_eq, Nat.mul_comm 2]
  rfl

/-- Settles O57: the drawn line of each buffer holds what the line's function gives. -/
theorem backgroundLinePixels : Obligations.BackgroundLinePixels := by
  intro s line y x hl hy hx
  refine ⟨?_, ?_, rfl⟩
  · rw [← State.bgColour_eq]
    exact s.lcd.bgi.get_setLine hl hy hx (s.bgColour line)
  · rw [← State.bgColour_eq, ← shade_eq]
    exact s.lcd.fb.get_setLine hl hy hx fun col => shade s.lcd.bgp (s.bgColour line col)

/-! ### Drawing in order -/

/-- Of the shades that the first `n` of a sequence of drawings give a pixel, the last one. -/
def lastDrawn (c : Nat → Option Shade) : Nat → Option Shade
  | 0 => none
  | n + 1 => (c n).or (lastDrawn c n)

theorem lastDrawn_eq_some {c : Nat → Option Shade} {n k : Nat} {v : Shade} (hk : k < n) (hc : c k = some v)
    (later : ∀ j, k < j → j < n → c j = none) : lastDrawn c n = some v := by
  induction n with
  | zero => omega
  | succ n ih =>
    rw [lastDrawn]
    by_cases last : k = n
    · rw [← last, hc, Option.some_or]
    · rw [later n (by omega) (by omega), Option.none_or]
      exact ih (by omega) fun j hj hn => later j hj (by omega)

/-- A sequence of which one drawing at most reaches the pixel. -/
theorem lastDrawn_single {c : Nat → Option Shade} {n : Nat} (k : Nat) (others : ∀ j, j ≠ k → c j = none) :
    lastDrawn c n = if k < n then c k else none := by
  induction n with
  | zero => rfl
  | succ n ih =>
    rw [lastDrawn, ih]
    by_cases last : k = n
    · rw [last, if_neg (Nat.lt_irrefl n), if_pos (Nat.lt_succ_self n), Option.or_none]
    · rw [others n (Ne.symm last), Option.none_or]
      simp only [show k < n + 1 ↔ k < n by omega]

theorem lastDrawn_eq_none {c : Nat → Option Shade} {n : Nat} (none_drawn : ∀ k, k < n → c k = none) :
    lastDrawn c n = none := by
  induction n with
  | zero => rfl
  | succ n ih =>
    rw [lastDrawn, none_drawn n (Nat.lt_succ_self n), Option.none_or]
    exact ih fun k hk => none_drawn k (Nat.lt_succ_of_lt hk)

/-- The pixel after a loop of drawings, from what each of them does to it. -/
theorem Frame.get_foldl {draw : Frame → Nat → Frame} {c : Nat → Option Shade} {y x : Nat}
    (h : ∀ fb k, (draw fb k).get y x = (c k).getD (fb.get y x)) (fb : Frame) (n : Nat) :
    ((List.range n).foldl draw fb).get y x = (lastDrawn c n).getD (fb.get y x) := by
  induction n with
  | zero => rfl
  | succ n ih =>
    rw [List.range_succ, List.foldl_append, List.foldl_cons, List.foldl_nil, h, ih, lastDrawn, Option.getD_or]

/-! ### The sprites (R359 to R363) -/

/-- What a sprite's dot shows at a pixel of the screen, if anything: transparency, then priority. -/
def State.spriteDot (s : State) (e : OamEntry) (y x row col : Nat) : Option Shade :=
  if s.spriteColour e row col = 0 then none
  else if e.priority = true ∧ s.lcd.bgi.get y x ≠ 0 then none
  else some (shade (if e.palette then s.lcd.obp1 else s.lcd.obp0) (s.spriteColour e row col))

/-- What drawing a sprite's dot makes of a pixel: it is drawn at one place only. -/
def State.dotShade (s : State) (e : OamEntry) (y x row col : Nat) : Option Shade :=
  if row + e.posY = y + 16 ∧ col + e.posX = x + 8 then s.spriteDot e y x row col else none

section Pixel

variable (s : State) {y x : Nat} (hy : y < 144) (hx : x < 160)

include hy hx in
theorem State.get_drawSpritePixel (e : OamEntry) (row col : Nat) (fb : Frame) :
    (s.drawSpritePixel e row col fb).get y x = (s.dotShade e y x row col).getD (fb.get y x) := by
  unfold State.dotShade State.drawSpritePixel
  dsimp only
  by_cases here : row + e.posY = y + 16 ∧ col + e.posX = x + 8
  · have ex : (e.posX : Int) - 8 + col = x := by omega
    have ey : (e.posY : Int) - 16 + row = y := by omega
    have onScreen : 0 ≤ (x : Int) ∧ (x : Int) < 160 ∧ 0 ≤ (y : Int) ∧ (y : Int) < 144 := by omega
    rw [if_pos here, ex, ey, if_neg (not_not.2 onScreen), Int.toNat_natCast, Int.toNat_natCast, State.spriteDot]
    split
    · rfl
    split
    · rfl
    · rw [Frame.get_set fb hy hx, if_pos ⟨rfl, rfl⟩, Option.getD_some]
  · rw [if_neg here, Option.getD_none]
    split
    · rfl
    split
    · rfl
    split
    · rfl
    · rw [Frame.get_set fb hy hx, if_neg (by omega)]

/-- A sprite's rows and columns reach a pixel at most once. -/
theorem State.lastDrawn_dotShade (e : OamEntry) (h : Nat) :
    lastDrawn (fun row => lastDrawn (s.dotShade e y x row) 8) h =
      if ¬(e.posY ≤ y + 16 ∧ y + 16 < e.posY + h ∧ e.posX ≤ x + 8 ∧ x + 8 < e.posX + 8) then none
      else s.spriteDot e y x (y + 16 - e.posY) (x + 8 - e.posX) := by
  have column : ∀ row, lastDrawn (s.dotShade e y x row) 8 =
      if x + 8 - e.posX < 8 then s.dotShade e y x row (x + 8 - e.posX) else none := fun row =>
    lastDrawn_single _ fun col hc => if_neg (by omega)
  have rows : ∀ row, row ≠ y + 16 - e.posY → lastDrawn (s.dotShade e y x row) 8 = none := fun row hr => by
    rw [column]
    split
    · exact if_neg (by omega)
    · rfl
  rw [lastDrawn_single _ rows, column, State.dotShade]
  split_ifs <;> first | rfl | omega

theorem OamEntry.skipped_iff (e : OamEntry) :
    e.skipped = true ↔ e.posX = 0 ∨ 168 ≤ e.posX ∨ e.posY = 0 ∨ 160 ≤ e.posY := by
  simp [OamEntry.skipped, or_assoc]

/-- The shade an OAM entry draws, by the entry's fields. -/
theorem State.spriteShade_eq (i : Nat) :
    spriteShade s i y x =
      if (s.oamEntry i).skipped then none
      else lastDrawn (fun row => lastDrawn (s.dotShade (s.oamEntry i) y x row) 8) s.lcd.spriteHeight := by
  rw [State.lastDrawn_dotShade]
  simp only [OamEntry.skipped_iff, State.spriteDot, State.spriteColour, State.tilePixel_eq, shade_eq]
  rfl

include hy hx in
theorem State.get_drawSprite (fb : Frame) (i : Nat) :
    (s.drawSprite fb i).get y x = (spriteShade s i y x).getD (fb.get y x) := by
  rw [State.spriteShade_eq, State.drawSprite]
  split
  · rfl
  · refine Frame.get_foldl (fun fb row => ?_) _ _
    exact Frame.get_foldl (fun fb col => s.get_drawSpritePixel hy hx _ row col fb) fb 8

end Pixel

/-- Settles O58: the pass over OAM leaves a pixel to the last entry that draws it. -/
theorem spritePixels : Obligations.SpritePixels := by
  intro s y x hy hx
  have drawn : s.renderSprites.lcd.fb.get y x = (lastDrawn (spriteShade s · y x) 40).getD (s.lcd.fb.get y x) :=
    Frame.get_foldl (s.get_drawSprite hy hx) _ 40
  refine ⟨fun h => ?_, fun i c hi hc later => ?_, rfl⟩
  · rw [drawn, lastDrawn_eq_none h, Option.getD_none]
  · rw [drawn, lastDrawn_eq_some hi hc later, Option.getD_some]

end Sys2Proof.Machine

/-! SUPPORT. The reset state (70_reset_and_hazards.md R380), for every choice of the open parameters. -/

namespace Sys2Proof.Machine

/-! ### The parts of the reset state -/

/-- A blank frame reads 0 on the screen, and so does every frame outside it. -/
theorem Frame.get_blank (y x : Nat) : Frame.blank.get y x = 0 := by
  unfold Frame.get
  split
  · simp [Frame.blank]
  · rfl

/-- The display starts in OAM mode on line 0, and STAT says so. -/
theorem Display.reset_inPhase : Display.reset.InPhase := ⟨by decide, by decide, by decide⟩

theorem Regs.get8_of_flags_pc (r : Regs) (f : Byte) (pc : Word) (n : Reg8) :
    { r with f := f, pc := pc }.get8 n = r.get8 n := by
  cases n <;> rfl

/-- INIT_MEM with the boot-disable latch clear. -/
theorem State.resetWith_mem_read {p : ResetParams} (hm : p.initMem.wf = true) (n : Nat) :
    (State.resetWith p).mem.read n = if n = 0xFF50 then 0 else p.initMem.read n := by
  simp only [State.resetWith, Memory.wf_read_write hm, eq_comm (a := n)]

/-! ### The invariant at reset -/

/-- F needs no premise: reset masks it, whatever RESET_REGS has there (10_state.md R35). -/
theorem Inv.resetWith {p : ResetParams} (hb : WellFormed.bootRom p.bootRom = true)
    (hc : WellFormed.cartridge p.cart = true) (hm : p.initMem.wf = true) : Inv (State.resetWith p) where
  memory := Memory.wf_write 0x00 hm (by decide)
  bootRom := hb
  cartridge := hc
  flagsLow := mask_low p.regs.f
  statMode := Display.reset_inPhase.statMode
  accBound := show 0 < Mode.oam.budget by decide
  visibleLine := Display.reset_inPhase.visibleLine
  vblankLine := Display.reset_inPhase.vblankLine

/-- Settles O50: the well-formed parameters give the images, and the rest of the reset state is constant or masked. -/
theorem invariantHoldsAtReset : Obligations.InvariantHoldsAtReset := by
  refine ⟨fun p hp => ?_, Inv.resetWith rfl rfl rfl⟩
  simp only [WellFormed.params, Bool.and_eq_true] at hp
  obtain ⟨⟨⟨hb, hc⟩, hm⟩, -⟩ := hp
  exact Inv.resetWith hb hc hm

/-! ### The values at reset -/

/-- Settles O51: only MEM, the byte registers and the two buffers need more than R380's table read off. -/
theorem resetValues : Obligations.ResetValues := by
  intro p hm s
  have registers : ∀ n, s.regs.get8 n = p.regs.get8 n := p.regs.get8_of_flags_pc _ _
  have memory : ∀ n, s.mem.read n = if n = 0xFF50 then 0 else p.initMem.read n := State.resetWith_mem_read hm
  have display : ∀ r ∈ [s.lcd.lcdc, s.lcd.scy, s.lcd.scx, s.lcd.ly, s.lcd.lyc, s.lcd.bgp, s.lcd.obp0, s.lcd.obp1,
      s.lcd.wy, s.lcd.wx], r = 0 := fun r (hr : r ∈ List.replicate 10 0) => List.eq_of_mem_replicate hr
  have buffers : ∀ y x, s.lcd.fb.get y x = 0 ∧ s.lcd.bgi.get y x = 0 := fun y x =>
    ⟨Frame.get_blank y x, Frame.get_blank y x⟩
  exact ⟨registers, rfl, rfl, rfl, rfl, rfl, rfl, rfl, rfl, rfl, memory, rfl, rfl, rfl, display, rfl, rfl, rfl, buffers⟩

end Sys2Proof.Machine
